-- ==== Sys2Proof/Word.lean ====
section
/-! DEFINITION. The word types of the MicontBUS master framer (spec 00 R7, R9, R10). -/

namespace Sys2Proof

/-- A byte of a frame, buffer or payload (R10, R11). -/
abbrev Byte := BitVec 8

/-- A command code or a result code (R7, R74). -/
abbrev Nibble := BitVec 4

/-- `addr`, `size` and the transport checksum (R7). -/
abbrev Word16 := BitVec 16

/-- A variable, `baud`, `tmo` and the STATUS word (R7, R9, R31). -/
abbrev Word32 := BitVec 32

end Sys2Proof
end

