-- ==== Sys2Proof/Config.lean ====
section
/-! DEFINITION. The open parameters of the spec (00 R8) that are types or functions, the values hosts and the link
hand to the block, and the free values. -/

namespace Sys2Proof

/-- A port identifier (R73, D21): the spec's opaque type with decidable equality. The tag only tells ports apart;
nothing looks inside. DESIGN CHOICE, log entry 3. -/
structure PortId where
  tag : Nat
  deriving DecidableEq, Repr, Inhabited

/-- The packet value of R35. -/
structure Packet where
  id   : Byte
  cmd  : Byte
  addr : Word16
  size : Word16
  data : List Byte
  deriving DecidableEq, Repr, Inhabited

/-- A host operation as a host gives it (R70): the opcode byte and the operands. The operands are values, not further
bits; an opcode reads those of its own row (R71) and no others. DESIGN CHOICE, log entry 12. -/
structure HostCall where
  op     : Byte
  port   : PortId := ⟨0⟩
  baud   : Word32 := 0
  tmo    : Word32 := 0
  bytes  : List Byte := []
  packet : Packet := ⟨0, 0, 0, 0, []⟩
  word   : Word32 := 0
  deriving DecidableEq, Repr, Inhabited

/-- The two encodings of spec 30: a host operation (section 1) and the packet bytes of a wire frame, without the
transport trailer (sections 2 and 3). -/
inductive Code where
  | hop (c : HostCall)
  | frame (f : List Byte)
  deriving DecidableEq, Repr, Inhabited

/-- A draw of the link (R196). -/
inductive LinkEvent where
  | openAnswer (ok : Bool)    -- the answer to open(CFG_PORT, CFG_BAUD)
  | writeAnswer (ok : Bool)   -- the answer to write(TXF)
  | byte (b : Byte)           -- one byte arrives
  | gap                       -- the quiet gap
  | deadline                  -- the timeout has elapsed
  deriving DecidableEq, Repr, Inhabited

/-- What the schedule picks next (R59, R189, R197): an agent with what it does, or a reset (R211). -/
inductive Event where
  | host (h : Nat) (c : Code)   -- host h issues an operation, or presents a frame to the codec
  | link (d : LinkEvent)        -- the sequencer is scheduled and the link draws d
  | reset
  deriving DecidableEq, Repr, Inhabited

/-- CRC16 (R8, R132, D11): a total function of the bytes with no assumed property. An open parameter: no body can be
seen by a proof. Log entry 2. -/
opaque Config.crc16 : List Byte → Word16

/-- The schedule after the listed events of a state are used up: any event may come (R189, R196, R197). A free value.
Log entry 4. -/
opaque Config.freeEvent : Nat → Event

end Sys2Proof
end

