-- ==== Sys2Proof/Syntax.lean ====
section
/-! DEFINITION. One constructor for each row of spec/opcode_table.json, in the table's order: 11 host operations (R71)
and 14 frame classes (R78 to R81). A frame class carries the fields its frames have on the wire. -/

namespace Sys2Proof

inductive Instr where
  -- host operations (format HOP)
  | txn (port : PortId) (baud tmo : Word32) (req : List Byte)          -- TXN, R130
  | poll                                                               -- POLL, R160
  | wait                                                               -- WAIT, R161
  | stat (idx : BitVec 3)                                              -- STAT, R162
  | statReset                                                          -- STAT_RESET, R163
  | serialize (p : Packet)                                             -- SERIALIZE, R101
  | parse (f : List Byte)                                              -- PARSE, R103
  | variableWords (p : Packet)                                         -- VARIABLES, R108
  | asU32 (w : Word32)                                                 -- AS_U32, R110
  | asI32 (w : Word32)                                                 -- AS_I32, R111
  | asF32 (w : Word32)                                                 -- AS_F32, R112
  -- frame classes (format FRM)
  | getsizeReq (id : Byte) (addr : Word16)                             -- GETSIZE.REQ, R78
  | getsizeOk (id : Byte) (addr : Word16) (data : List Byte)           -- GETSIZE.OK, R78
  | getsizeErr (id : Byte) (result : Nibble) (addr : Word16)           -- GETSIZE.ERR, R78
  | getbufBReq (id : Byte) (addr size : Word16)                        -- GETBUF_B.REQ, R79
  | getbufBOk (id : Byte) (addr size : Word16) (data : List Byte)      -- GETBUF_B.OK, R79
  | getbufBErr (id : Byte) (result : Nibble) (addr size : Word16)      -- GETBUF_B.ERR, R79
  | putbufBReq (id : Byte) (addr size : Word16) (data : List Byte)     -- PUTBUF_B.REQ, R80
  | putbufBOk (id : Byte) (addr size : Word16)                         -- PUTBUF_B.OK, R80
  | putbufBErr (id : Byte) (result : Nibble) (addr size : Word16)      -- PUTBUF_B.ERR, R80
  | getbuf (id : Byte) (result : Nibble) (addr : Word16)               -- GETBUF, R81
  | putbuf (id : Byte) (result : Nibble) (addr : Word16)               -- PUTBUF, R81
  | undefCode0 (id : Byte) (result : Nibble) (addr : Word16)           -- UNDEF.CODE0, R81
  | undefCode67 (id : Byte) (result : Nibble) (low : BitVec 1) (addr : Word16)   -- UNDEF.CODE6_7, code 011 ++ low
  | undefCode8F (id : Byte) (result : Nibble) (low : BitVec 3) (addr : Word16)   -- UNDEF.CODE8_F, code 1 ++ low
  deriving DecidableEq, Repr

end Sys2Proof
end

