-- ==== Sys2Proof/WellFormed.lean ====
section
/-! DEFINITION. Which terms of Instr are instructions (the table's constraints on fields), and which frames PARSE
takes (R78 to R81). -/

namespace Sys2Proof

/-- The constraint the table puts on the fields of the `.ERR` rows: `result` in 0x2 to 0xF (R87). Every other row
admits every value of its fields. -/
def Instr.WellFormed (i : Instr) : Bool :=
  match i with
  | .getsizeErr _ result _ => 2 ≤ result.toNat
  | .getbufBErr _ result _ _ => 2 ≤ result.toNat
  | .putbufBErr _ result _ _ => 2 ≤ result.toNat
  | .txn _ _ _ _ | .poll | .wait | .stat _ | .statReset => true
  | .serialize _ | .parse _ | .variableWords _ | .asU32 _ | .asI32 _ | .asF32 _ => true
  | .getsizeReq _ _ | .getsizeOk _ _ _ | .getbufBReq _ _ _ | .getbufBOk _ _ _ _ => true
  | .putbufBReq _ _ _ _ | .putbufBOk _ _ _ => true
  | .getbuf _ _ _ | .putbuf _ _ _ | .undefCode0 _ _ _ | .undefCode67 _ _ _ _ | .undefCode8F _ _ _ _ => true

/-- Is the instruction a frame class (format FRM)? -/
def Instr.isFrame (i : Instr) : Bool :=
  match i with
  | .txn _ _ _ _ | .poll | .wait | .stat _ | .statReset => false
  | .serialize _ | .parse _ | .variableWords _ | .asU32 _ | .asI32 _ | .asF32 _ => false
  | .getsizeReq _ _ | .getsizeOk _ _ _ | .getsizeErr _ _ _ => true
  | .getbufBReq _ _ _ | .getbufBOk _ _ _ _ | .getbufBErr _ _ _ _ => true
  | .putbufBReq _ _ _ _ | .putbufBOk _ _ _ | .putbufBErr _ _ _ _ => true
  | .getbuf _ _ _ | .putbuf _ _ _ | .undefCode0 _ _ _ | .undefCode67 _ _ _ _ | .undefCode8F _ _ _ _ => true

/-- The frames of the fourteen classes that parse, by the conditions the layouts give: GETSIZE.OK only with 4 bytes of data
(R78), GETBUF_B.OK only with `len(data) = size` (R79), PUTBUF_B.REQ only without data (R80 and C6 say that one with data
does not parse; they do not call it ill-formed), and no frame of another code (R81). False of a host operation. -/
def Instr.parsableFrame (i : Instr) : Bool :=
  match i with
  | .getsizeReq _ _ | .getsizeErr _ _ _ => true
  | .getsizeOk _ _ data => data.length == 4
  | .getbufBReq _ _ _ | .getbufBErr _ _ _ _ => true
  | .getbufBOk _ _ size data => data.length == size.toNat
  | .putbufBReq _ _ _ data => data.isEmpty
  | .putbufBOk _ _ _ | .putbufBErr _ _ _ _ => true
  | .getbuf _ _ _ | .putbuf _ _ _ | .undefCode0 _ _ _ | .undefCode67 _ _ _ _ | .undefCode8F _ _ _ _ => false
  | .txn _ _ _ _ | .poll | .wait | .stat _ | .statReset => false
  | .serialize _ | .parse _ | .variableWords _ | .asU32 _ | .asI32 _ | .asF32 _ => false

end Sys2Proof
end

