-- ==== Sys2Proof/Decode.lean ====
section
/-! DEFINITION. Byte order and field helpers (R10 to R13, R74), the two decoders (host opcodes R71 and R72, frame classes
R74 to R81 and R87), and after them the encoder. -/

namespace Sys2Proof

/-! ## Fields and byte order -/

/-- `cmd[3:0]`, the command code (R74). -/
def codeOf (cmd : Byte) : Nibble := cmd.extractLsb' 0 4

/-- `cmd[7:4]`, the result code (R74). -/
def resultOf (cmd : Byte) : Nibble := cmd.extractLsb' 4 4

/-- The command byte of a result code and a command code (R74). -/
def cmdByte (result code : Nibble) : Byte := result ++ code

/-- `le16` of R12. -/
def le16 (v : Word16) : List Byte := [v.extractLsb' 0 8, v.extractLsb' 8 8]

/-- `rd16` of R12. The byte list is read only inside its length by every rule; past its end this reads 0
(log entry 13). -/
def rd16 (B : List Byte) (i : Nat) : Word16 :=
  BitVec.ofNat 16 ((B.getD i 0).toNat + 2 ^ 8 * (B.getD (i + 1) 0).toNat)

/-- `rd32` of R12; past the end as in `rd16`. -/
def rd32 (B : List Byte) (i : Nat) : Word32 :=
  BitVec.ofNat 32 ((B.getD i 0).toNat + 2 ^ 8 * (B.getD (i + 1) 0).toNat
    + 2 ^ 16 * (B.getD (i + 2) 0).toNat + 2 ^ 24 * (B.getD (i + 3) 0).toNat)

/-- The 4-byte header of every packet (R77). -/
def header (id cmd : Byte) (addr : Word16) : List Byte := [id, cmd] ++ le16 addr

/-! ## What a decoder answers -/

/-- Why bytes are no instruction. -/
inductive DecodeReject where
  | unknownHostOp   -- the opcode matches no row of R71 (R72)
  | frameTooShort   -- fewer than 4 bytes: no header (R77)
  | badFrameLength  -- the class its `cmd` names has no frame of this length (R78 to R81)
  | noFrameClass    -- no row matches `cmd`; by R87 this does not happen
  deriving DecidableEq, Repr

inductive Decoded where
  | ok (i : Instr)
  | reject (r : DecodeReject)
  deriving DecidableEq, Repr

def Decoded.instr? (d : Decoded) : Option Instr :=
  match d with
  | .ok i => some i
  | .reject _ => none

/-! ## Host operations -/

/-- A HOP row of the opcode table: it matches when `OP & mask = pattern` (R87). -/
structure HopRow where
  pattern : Byte
  mask    : Byte
  build   : HostCall → Instr

def HopRow.hits (r : HopRow) (op : Byte) : Bool := op &&& r.mask == r.pattern

/-- The host opcode map of R71, in its order. -/
def hopRows : List HopRow := [
  ⟨0x01, 0xFF, fun c => .txn c.port c.baud c.tmo c.bytes⟩,
  ⟨0x02, 0xFF, fun _ => .poll⟩,
  ⟨0x03, 0xFF, fun _ => .wait⟩,
  ⟨0x10, 0xF8, fun c => .stat (c.op.extractLsb' 0 3)⟩,
  ⟨0x20, 0xFF, fun _ => .statReset⟩,
  ⟨0x40, 0xFF, fun c => .serialize c.packet⟩,
  ⟨0x41, 0xFF, fun c => .parse c.bytes⟩,
  ⟨0x42, 0xFF, fun c => .variableWords c.packet⟩,
  ⟨0x43, 0xFF, fun c => .asU32 c.word⟩,
  ⟨0x44, 0xFF, fun c => .asI32 c.word⟩,
  ⟨0x45, 0xFF, fun c => .asF32 c.word⟩]

/-- "A host decodes an opcode by trying the rows of rule R71 in order" (R72). -/
def tryRows (rows : List HopRow) (c : HostCall) : Decoded :=
  match rows with
  | [] => .reject .unknownHostOp
  | r :: rest => if r.hits c.op then .ok (r.build c) else tryRows rest c

/-- The host operation of an opcode and its operands. The STAT row takes in indexes 6 and 7, which its meaning refuses
(R162). -/
def decodeHop (c : HostCall) : Decoded := tryRows hopRows c

/-! ## Frame classes -/

inductive FrameClass where
  | getsizeReq | getsizeOk | getsizeErr
  | getbufBReq | getbufBOk | getbufBErr
  | putbufBReq | putbufBOk | putbufBErr
  | getbuf | putbuf | undefCode0 | undefCode67 | undefCode8F
  deriving DecidableEq, Repr

/-- An FRM row: it matches when `cmd & mask = pattern` and, for the `.ERR` classes, `result` is in 0x2 to 0xF
(R87). -/
structure FrameRow where
  cls       : FrameClass
  pattern   : Byte
  mask      : Byte
  minResult : Nat
  deriving DecidableEq, Repr

def FrameRow.hits (r : FrameRow) (cmd : Byte) : Bool :=
  cmd &&& r.mask == r.pattern && decide (r.minResult ≤ (resultOf cmd).toNat)

/-- The FRM rows of the opcode table, in its order. -/
def frameRows : List FrameRow := [
  ⟨.getsizeReq, 0x01, 0xFF, 0⟩,
  ⟨.getsizeOk, 0x11, 0xFF, 0⟩,
  ⟨.getsizeErr, 0x01, 0x0F, 2⟩,
  ⟨.getbufBReq, 0x02, 0xFF, 0⟩,
  ⟨.getbufBOk, 0x12, 0xFF, 0⟩,
  ⟨.getbufBErr, 0x02, 0x0F, 2⟩,
  ⟨.putbufBReq, 0x04, 0xFF, 0⟩,
  ⟨.putbufBOk, 0x14, 0xFF, 0⟩,
  ⟨.putbufBErr, 0x04, 0x0F, 2⟩,
  ⟨.getbuf, 0x03, 0x0F, 0⟩,
  ⟨.putbuf, 0x05, 0x0F, 0⟩,
  ⟨.undefCode0, 0x00, 0x0F, 0⟩,
  ⟨.undefCode67, 0x06, 0x0E, 0⟩,
  ⟨.undefCode8F, 0x08, 0x08, 0⟩]

/-- The class of a command byte. -/
def frameClass? (cmd : Byte) : Option FrameClass :=
  (frameRows.find? (fun r => r.hits cmd)).map (fun r => r.cls)

/-- An instruction, where the frame has the length its class gives. -/
def ifLength (fits : Bool) (i : Instr) : Decoded :=
  if fits then .ok i else .reject .badFrameLength

/-- The instruction of a class read from a frame of at least 4 bytes: the layouts of R77 to R81. -/
def frameInstr (cls : FrameClass) (f : List Byte) : Decoded :=
  let id := f.getD 0 0
  let cmd := f.getD 1 0
  let addr := rd16 f 2
  let size := rd16 f 4
  let n := f.length
  match cls with
  | .getsizeReq => ifLength (n == 4) (.getsizeReq id addr)
  | .getsizeOk => ifLength (4 ≤ n) (.getsizeOk id addr (f.drop 4))
  | .getsizeErr => ifLength (n == 4) (.getsizeErr id (resultOf cmd) addr)
  | .getbufBReq => ifLength (n == 6) (.getbufBReq id addr size)
  | .getbufBOk => ifLength (6 ≤ n) (.getbufBOk id addr size (f.drop 6))
  | .getbufBErr => ifLength (n == 6) (.getbufBErr id (resultOf cmd) addr size)
  | .putbufBReq => ifLength (6 ≤ n) (.putbufBReq id addr size (f.drop 6))
  | .putbufBOk => ifLength (n == 6) (.putbufBOk id addr size)
  | .putbufBErr => ifLength (n == 6) (.putbufBErr id (resultOf cmd) addr size)
  | .getbuf => ifLength (n == 4) (.getbuf id (resultOf cmd) addr)
  | .putbuf => ifLength (n == 4) (.putbuf id (resultOf cmd) addr)
  | .undefCode0 => ifLength (n == 4) (.undefCode0 id (resultOf cmd) addr)
  | .undefCode67 => ifLength (n == 4) (.undefCode67 id (resultOf cmd) (cmd.extractLsb' 0 1) addr)
  | .undefCode8F => ifLength (n == 4) (.undefCode8F id (resultOf cmd) (cmd.extractLsb' 0 3) addr)

/-- The frame class instruction of the packet bytes of a frame. -/
def decodeFrame (f : List Byte) : Decoded :=
  if f.length < 4 then .reject .frameTooShort
  else
    match frameClass? (f.getD 1 0) with
    | some cls => frameInstr cls f
    | none => .reject .noFrameClass

/-- The decoder: the format says which of the two tables a code is read by (R87). -/
def decode (c : Code) : Decoded :=
  match c with
  | .hop c => decodeHop c
  | .frame f => decodeFrame f

/-! ## Encoder -/

/-- The code of an instruction, written from R71 and R77 to R81. -/
def encode (i : Instr) : Code :=
  match i with
  | .txn port baud tmo req => .hop { op := 0x01, port := port, baud := baud, tmo := tmo, bytes := req }
  | .poll => .hop { op := 0x02 }
  | .wait => .hop { op := 0x03 }
  | .stat idx => .hop { op := (0b00010#5 ++ idx : BitVec 8) }
  | .statReset => .hop { op := 0x20 }
  | .serialize p => .hop { op := 0x40, packet := p }
  | .parse f => .hop { op := 0x41, bytes := f }
  | .variableWords p => .hop { op := 0x42, packet := p }
  | .asU32 w => .hop { op := 0x43, word := w }
  | .asI32 w => .hop { op := 0x44, word := w }
  | .asF32 w => .hop { op := 0x45, word := w }
  | .getsizeReq id addr => .frame (header id 0x01 addr)
  | .getsizeOk id addr data => .frame (header id 0x11 addr ++ data)
  | .getsizeErr id result addr => .frame (header id (cmdByte result 0x1) addr)
  | .getbufBReq id addr size => .frame (header id 0x02 addr ++ le16 size)
  | .getbufBOk id addr size data => .frame (header id 0x12 addr ++ le16 size ++ data)
  | .getbufBErr id result addr size => .frame (header id (cmdByte result 0x2) addr ++ le16 size)
  | .putbufBReq id addr size data => .frame (header id 0x04 addr ++ le16 size ++ data)
  | .putbufBOk id addr size => .frame (header id 0x14 addr ++ le16 size)
  | .putbufBErr id result addr size => .frame (header id (cmdByte result 0x4) addr ++ le16 size)
  | .getbuf id result addr => .frame (header id (cmdByte result 0x3) addr)
  | .putbuf id result addr => .frame (header id (cmdByte result 0x5) addr)
  | .undefCode0 id result addr => .frame (header id (cmdByte result 0x0) addr)
  | .undefCode67 id result low addr => .frame (header id (cmdByte result (0b011#3 ++ low : BitVec 4)) addr)
  | .undefCode8F id result low addr => .frame (header id (cmdByte result (0b1#1 ++ low : BitVec 4)) addr)

/-! ## Words of the opcode table -/

/-- The `n` low bytes of a number, the least significant first. -/
def bytesOfNat (n w : Nat) : List Byte :=
  match n with
  | 0 => []
  | n + 1 => BitVec.ofNat 8 w :: bytesOfNat n (w / 256)

/-- Zero bytes up to the shortest frame of the class: 6 bytes where the class has a `size` field, else 4 (R77). -/
def padFrame (f : List Byte) : List Byte :=
  let code := codeOf (f.getD 1 0)
  let need := if code = 0x2 ∨ code = 0x4 then 6 else 4
  f ++ List.replicate (need - f.length) 0

/-- The code a word of the opcode table stands for, operands zero. Host opcodes and command bytes share the 8-bit
words (both formats number 8 bits): a byte that matches a HOP row is a host opcode, any other byte the command byte
(offset 1) of a frame. A word of more than 8 bits is the bytes of a frame. DESIGN CHOICE, log entry 10. -/
def tableCode (nbits w : Nat) : Code :=
  if nbits ≤ 8 then
    if hopRows.any (fun r => r.hits (BitVec.ofNat 8 w)) then .hop { op := BitVec.ofNat 8 w }
    else .frame (padFrame [0, BitVec.ofNat 8 w])
  else .frame (padFrame (bytesOfNat ((nbits + 7) / 8) w))

/-- The instruction the decoder reads from a word of the opcode table. -/
def decodeTableWord (nbits w : Nat) : Option Instr := (decode (tableCode nbits w)).instr?

end Sys2Proof
end

