-- ==== Sys2Proof/Machine/State.lean ====
section
/-! DEFINITION. The state of the block (spec 10), the values it returns, and its reset (R38). -/

namespace Sys2Proof.Machine

/-- `SEQ` (R22). Codes 5 to 7 are never taken. -/
inductive SeqState where
  | idle       -- IDLE, 0
  | opening    -- OPEN, 1
  | writing    -- WRITE, 2
  | receiving  -- RECV, 3
  | done       -- DONE, 4
  deriving DecidableEq, Repr

/-- `RESULT_KIND` (R29): the six values ever stored. -/
inductive ResultKind where
  | none | ok | portOpenError | writeError | timeout | crcError
  deriving DecidableEq, Repr

/-- What TXN and STAT_RESET return (R130, R163, R180). -/
inductive HostStatus where
  | stOk | stBusy
  deriving DecidableEq, Repr

/-- The parse errors (R103, R180): returned by PARSE only, never stored. -/
inductive ParseError where
  | frameTooShort | trailingOrMissingBytes | unknownCommand
  deriving DecidableEq, Repr

/-- What PARSE returns (R103). -/
inductive ParseResult where
  | ok (p : Packet)
  | error (e : ParseError)
  deriving DecidableEq, Repr

/-- An IEEE 754 binary32 datum (R112, I13; PRESUMED, log entry 14). `finite neg m e` is the number `m * 2 ^ e`, negated
when `neg`; a NaN keeps its sign and its fraction. -/
inductive Binary32 where
  | zero (neg : Bool)
  | finite (neg : Bool) (mant : Nat) (exp : Int)
  | infinity (neg : Bool)
  | nan (neg : Bool) (fraction : BitVec 23)
  deriving DecidableEq, Repr

/-- Why the model gives an operation no meaning: the reasons of R72, R73, R137. -/
inductive RefuseReason where
  | unknownHostOp | badCounterIndex | requestTooLong | rxOverflow
  deriving DecidableEq, Repr

/-- A value an operation returns to its host (R70, R71). -/
inductive Reply where
  | status (st : HostStatus)                             -- TXN, STAT_RESET
  | result (status : Word32) (data : List Byte)          -- POLL, WAIT
  | counter (v : Nat)                                    -- STAT
  | bytes (f : List Byte)                                -- SERIALIZE
  | parsed (r : ParseResult)                             -- PARSE
  | words (ws : List Word32)                             -- VARIABLES
  | nat (n : Nat)                                        -- AS_U32
  | int (n : Int)                                        -- AS_I32
  | float (d : Binary32)                                 -- AS_F32
  | frame (f : List Byte) (r : ParseResult)              -- a frame class: SERIALIZE's bytes, PARSE's answer to them
  deriving DecidableEq, Repr

/-- `CFG_PORT`, `CFG_BAUD`, `CFG_TMO` (R24). -/
structure PortConfig where
  port : PortId
  baud : Word32
  tmo  : Word32
  deriving DecidableEq, Repr

/-- A request the sequencer put to the link, with the link's answer (R196). -/
inductive LinkRequest where
  | openPort (cfg : Option PortConfig) (ok : Bool)
  | write (frame : List Byte) (ok : Bool)
  deriving DecidableEq, Repr

/-- `CNT` (R34): each counter is a number below `2 ^ W_CNT`. -/
structure Counters where
  txBytes   : Nat   -- 0 TX_BYTES
  rxBytes   : Nat   -- 1 RX_BYTES
  txPackets : Nat   -- 2 TX_PACKETS
  rxPackets : Nat   -- 3 RX_PACKETS
  crcErrors : Nat   -- 4 CRC_ERRORS
  timeouts  : Nat   -- 5 TIMEOUTS
  deriving DecidableEq, Repr

def Counters.zero : Counters := ⟨0, 0, 0, 0, 0, 0⟩

/-- The open numeric parameters of R8: fixed for a machine, and no step changes them. DESIGN CHOICE, log entry 1. -/
structure Params where
  wCnt       : Nat   -- W_CNT
  reqCap     : Nat   -- REQ_CAP
  rxCap      : Nat   -- RX_CAP
  extraHosts : Nat   -- N_HOST - 1
  deriving DecidableEq, Repr

/-- Everything the spec gives the block, then the model's own fields. -/
structure State where
  -- spec 10
  seq        : SeqState
  cfg        : Option PortConfig
  req        : List Byte
  txf        : List Byte
  rxb        : List Byte
  portOpen   : Bool
  resultKind : ResultKind
  resultData : List Byte
  cnt        : Counters
  refusal    : Option RefuseReason   -- REFUSED (R33) with the reason: set means REFUSED = 1
  held       : List Nat              -- the hosts held in WAIT (R161)
  -- parameters (R8)
  par        : Params
  -- the model's own (log entries 4 and 11)
  caller     : Nat                   -- the host whose operation is executed
  replies    : List (Nat × Reply)    -- the values returned, newest first (R222)
  requests   : List LinkRequest      -- the requests put to the link, newest first (R196)
  env        : List Event            -- the schedule still to come, oldest first (R59)
  tick       : Nat                   -- free events drawn so far
  deriving DecidableEq, Repr

/-- No step of this machine faults: every error kind of R180 is a next state or a returned value, and R185 says that
nothing is fatal to the engine. Nobody raises a fault; having none is safe, since nothing is proved from it. -/
inductive Fault where
  deriving DecidableEq, Repr

/-- The only refusal. -/
inductive Refusal where
  /-- Raised by an arm of `exec` for an instruction with no meaning yet, and by nothing else: no arm raises it now.
  Safe: the run stops. (The spec's own `refuse(reason)` is no refusal of the model: it sets REFUSED, R33.) -/
  | notModelled (mnemonic : String)
  deriving DecidableEq, Repr

/-- The parameters of the reset machine: W_CNT the spec's default, the capacities D17 recommends, one host.
DESIGN CHOICE, log entry 1. -/
def Params.start : Params := { wCnt := 32, reqCap := 65541, rxCap := 65543, extraHosts := 0 }

/-- The machine right after reset (R38), at the start of a run (REFUSED 0, no host held, nothing scheduled). -/
def State.reset : State :=
  { seq := .idle
    cfg := none
    req := []
    txf := []
    rxb := []
    portOpen := false
    resultKind := .none
    resultData := []
    cnt := Counters.zero
    refusal := none
    held := []
    par := Params.start
    caller := 0
    replies := []
    requests := []
    env := []
    tick := 0 }

end Sys2Proof.Machine
end

