-- ==== Sys2Proof/Machine/Flags.lean ====
section
/-! DEFINITION. The numeric codes (R22, R29, R180), the flags BUSY and DONE (R23, R32, R192) and the STATUS word (R31). The
block has no other flags (R32). -/

namespace Sys2Proof.Machine

/-- The code of `SEQ` (R22). -/
def SeqState.code (q : SeqState) : BitVec 3 :=
  match q with
  | .idle => 0
  | .opening => 1
  | .writing => 2
  | .receiving => 3
  | .done => 4

/-- The code of `RESULT_KIND` (R29, R180). -/
def ResultKind.code (k : ResultKind) : BitVec 4 :=
  match k with
  | .none => 0x0
  | .ok => 0x1
  | .portOpenError => 0x2
  | .writeError => 0x3
  | .timeout => 0x4
  | .crcError => 0x5

/-- The code of a status a host operation returns (R180). -/
def HostStatus.code (st : HostStatus) : BitVec 4 :=
  match st with
  | .stOk => 0x1
  | .stBusy => 0x6

/-- The code of a parse error (R180). -/
def ParseError.code (e : ParseError) : BitVec 4 :=
  match e with
  | .frameTooShort => 0x8
  | .trailingOrMissingBytes => 0x9
  | .unknownCommand => 0xA

/-- The code PARSE returns: ST_OK with a packet, else the error's (R103, R180). -/
def ParseResult.code (r : ParseResult) : BitVec 4 :=
  match r with
  | .ok _ => HostStatus.stOk.code
  | .error e => e.code

/-- Busy is OPEN, WRITE or RECV; free is IDLE or DONE (R23). -/
def SeqState.busy (q : SeqState) : Bool :=
  match q with
  | .idle => false
  | .opening => true
  | .writing => true
  | .receiving => true
  | .done => false

def State.busy (s : State) : Bool := s.seq.busy

/-- The completion output `done`, equal to STATUS.DONE (R192). -/
def State.doneSignal (s : State) : Bool := s.seq == .done

/-- `REFUSED` (R33). -/
def State.refusedMark (s : State) : Bool := s.refusal.isSome

/-- The STATUS word (R31): reserved[31:12], KIND[11:8], reserved[7:5], DONE[4], BUSY[3], SEQ[2:0]. -/
def statusWord (q : SeqState) (k : ResultKind) : Word32 :=
  0#20 ++ k.code ++ 0#3 ++ BitVec.ofBool (q == .done) ++ BitVec.ofBool q.busy ++ q.code

def State.status (s : State) : Word32 := statusWord s.seq s.resultKind

end Sys2Proof.Machine
end

