-- ==== Sys2Proof/Machine/Ops.lean ====
section
/-! DEFINITION. The named operations on the state: returning a value, refusing, counting, the CRC framer, starting and
ending a transaction, holding and releasing hosts, reset, and the schedule. -/

namespace Sys2Proof.Machine

/-! ## Returning and refusing -/

/-- Host `h` gets the value `r` (R70). -/
def State.replyTo (h : Nat) (r : Reply) (s : State) : State := { s with replies := (h, r) :: s.replies }

/-- The host whose operation is executed gets the value `r`. -/
def State.reply (r : Reply) (s : State) : State := s.replyTo s.caller r

/-- `refuse(reason)` (R16, R33, R72): the mark REFUSED and no other effect. DEDUCED, log entry 8. -/
def State.refuse (why : RefuseReason) (s : State) : State := { s with refusal := some why }

/-- `(STATUS, RESULT_DATA)`, what POLL and WAIT return (R160, R161). -/
def State.resultReply (s : State) : Reply := .result s.status s.resultData

/-! ## Counters (R34, R164) -/

/-- `(v + n) mod 2^W_CNT` (R164). -/
def wrapAdd (w v n : Nat) : Nat := (v + n) % 2 ^ w

/-- TX_BYTES and TX_PACKETS together (R60, R136). -/
def State.countTx (n : Nat) (s : State) : State :=
  { s with cnt := { s.cnt with
      txBytes := wrapAdd s.par.wCnt s.cnt.txBytes n
      txPackets := wrapAdd s.par.wCnt s.cnt.txPackets 1 } }

/-- RX_BYTES and RX_PACKETS together (R60, R139). -/
def State.countRx (n : Nat) (s : State) : State :=
  { s with cnt := { s.cnt with
      rxBytes := wrapAdd s.par.wCnt s.cnt.rxBytes n
      rxPackets := wrapAdd s.par.wCnt s.cnt.rxPackets 1 } }

/-- CRC_ERRORS (R138). -/
def State.countCrcError (s : State) : State :=
  { s with cnt := { s.cnt with crcErrors := wrapAdd s.par.wCnt s.cnt.crcErrors 1 } }

/-- TIMEOUTS (R140). -/
def State.countTimeout (s : State) : State :=
  { s with cnt := { s.cnt with timeouts := wrapAdd s.par.wCnt s.cnt.timeouts 1 } }

/-- `CNT[i]` for a counter index; none for 6 and 7 (R34, R162). -/
def Counters.get? (c : Counters) (idx : BitVec 3) : Option Nat :=
  match idx.toNat with
  | 0 => some c.txBytes
  | 1 => some c.rxBytes
  | 2 => some c.txPackets
  | 3 => some c.rxPackets
  | 4 => some c.crcErrors
  | 5 => some c.timeouts
  | _ => none

/-! ## The CRC framer (R132, R133) -/

/-- `FRAME(req)` (R132): the trailer is little-endian (C1). -/
def frameOf (req : List Byte) : List Byte := req ++ le16 (Config.crc16 req)

/-- `STRIP(F)` (R133). -/
def stripOf (f : List Byte) : List Byte := f.take (f.length - 2)

/-- `CHECK(F)` (R133). -/
def checkOf (f : List Byte) : Bool :=
  decide (2 ≤ f.length) && rd16 f (f.length - 2) == Config.crc16 (stripOf f)

/-! ## Starting a transaction -/

/-- What an accepted TXN writes (R130). -/
def State.accept (cfg : PortConfig) (req : List Byte) (s : State) : State :=
  { s with
    cfg := some cfg
    req := req
    txf := []
    rxb := []
    resultKind := .none
    resultData := []
    seq := .opening }

/-! ## Holding a host in WAIT (R16, R161) -/

/-- The executing host is held. -/
def State.hold (s : State) : State := { s with held := s.held.insert s.caller }

/-- The hold of every held host is lifted, and its WAIT returns `(STATUS, RESULT_DATA)` as they now are: part of the
transition that lifts the hold, which is one that executes `finish` (R161) or a reset (R211). DEDUCED, log entries 6
and 7. -/
def State.release (s : State) : State :=
  { s with
    held := []
    replies := s.held.map (fun h => (h, s.resultReply)) ++ s.replies }

/-! ## Ending a transaction -/

/-- `finish K with payload P` (R183), the common end of every transaction, the block's analogue of taking an
exception: the port is closed, RXB cleared, the outcome stored, SEQ is DONE, and the holds of WAIT are lifted (R161). REQ,
TXF and CFG keep their values. The return beside it is `State.accept`: the next TXN (R185). -/
def State.finish (k : ResultKind) (payload : List Byte) (s : State) : State :=
  { s with
    portOpen := false
    rxb := []
    resultKind := k
    resultData := payload
    seq := .done }.release

/-! ## Reset (R210, R211) -/

/-- R210, one atomic transition; REFUSED and the parameters stay (R38). -/
def State.clear (s : State) : State :=
  { s with
    seq := .idle
    cfg := none
    req := []
    txf := []
    rxb := []
    portOpen := false
    resultKind := .none
    resultData := []
    cnt := Counters.zero }

/-- RESET: the state of R38, and every held host is released with `(STATUS, RESULT_DATA)` of the reset block (R211).
DEDUCED, log entry 7. -/
def State.resetBlock (s : State) : State := s.clear.release

/-! ## The schedule (R59, R189, R197) -/

/-- May host `h` issue an operation: it is one of the N_HOST hosts (R197) and not held (R16). -/
def State.mayIssue (h : Nat) (s : State) : Bool := decide (h ≤ s.par.extraHosts ∧ h ∉ s.held)

/-- The next event of the schedule, and the state without it; a free value when none is listed (log entry 4). -/
def State.nextEvent (s : State) : Event × State :=
  match s.env with
  | e :: rest => (e, { s with env := rest })
  | [] => (Config.freeEvent s.tick, { s with tick := s.tick + 1 })

end Sys2Proof.Machine
end

