-- ==== Sys2Proof/Machine/Operands.lean ====
section
/-! DEFINITION. The packet codec as functions of the operands (R100 to R112): SERIALIZE, PARSE, VARIABLES and the word
interpretations, and what the codec does with a frame of a class. -/

namespace Sys2Proof.Machine

/-- Does a packet have a `size` field on the wire (R77)? -/
def hasSize (code : Nibble) : Bool := code == 0x2 || code == 0x4

/-- Does SERIALIZE append `data`: a PUTBUF_B request, a GETBUF_B OK response, a GETSIZE OK response (R101). -/
def hasData (code result : Nibble) : Bool :=
  (code == 0x4 && result == 0x0) || (code == 0x2 && result == 0x1) || (code == 0x1 && result == 0x1)

/-- SERIALIZE (R101). It checks nothing. -/
def serialize (p : Packet) : List Byte :=
  header p.id p.cmd p.addr
    ++ (if hasSize (codeOf p.cmd) then le16 p.size else [])
    ++ (if hasData (codeOf p.cmd) (resultOf p.cmd) then p.data else [])

/-- The last check of PARSE: all bytes are consumed (R107). -/
def endParse (consumed : Nat) (f : List Byte) (p : Packet) : ParseResult :=
  if consumed = f.length then .ok p else .error .trailingOrMissingBytes

/-- The GETSIZE branch (R104). -/
def parseGetsize (f : List Byte) (p : Packet) : ParseResult :=
  if resultOf p.cmd = 0x1 then
    if f.length - 4 = 4 then endParse 8 f { p with data := (f.drop 4).take 4 }
    else .error .trailingOrMissingBytes
  else endParse 4 f p

/-- The GETBUF_B and PUTBUF_B branch (R105). -/
def parseBuf (f : List Byte) (p : Packet) : ParseResult :=
  if f.length - 4 < 2 then .error .trailingOrMissingBytes
  else
    let size := rd16 f 4
    if codeOf p.cmd = 0x2 ∧ resultOf p.cmd = 0x1 then
      if f.length - 6 = size.toNat then
        endParse (6 + size.toNat) f { p with size := size, data := (f.drop 6).take size.toNat }
      else .error .trailingOrMissingBytes
    else endParse 6 f { p with size := size }

/-- PARSE (R103): the order of the checks is that of R107. -/
def parse (f : List Byte) : ParseResult :=
  if f.length < 4 then .error .frameTooShort
  else
    let p : Packet := { id := f.getD 0 0, cmd := f.getD 1 0, addr := rd16 f 2, size := 0, data := [] }
    let code := codeOf p.cmd
    if code = 0x1 then parseGetsize f p
    else if code = 0x2 ∨ code = 0x4 then parseBuf f p
    else .error .unknownCommand

/-- VARIABLES (R108): words of a `data` whose length is a multiple of 4, else none. -/
def variableWords (data : List Byte) : List Word32 :=
  if data.length % 4 = 0 then (List.range (data.length / 4)).map (fun k => rd32 data (4 * k)) else []

/-- AS_U32 (R110). -/
def asU32 (w : Word32) : Nat := w.toNat

/-- AS_I32 (R111): `signed32` of R13. Two's complement is PRESUMED by the spec, log entry 14. -/
def asI32 (w : Word32) : Int := if w.getLsbD 31 then (w.toNat : Int) - 2 ^ 32 else w.toNat

/-- AS_F32 (R112): the binary32 datum of a bit pattern: sign bit 31, biased exponent [30:23], fraction [22:0]. The
format is PRESUMED by the spec, log entry 14. -/
def asF32 (w : Word32) : Binary32 :=
  let neg := w.getLsbD 31
  let exp : BitVec 8 := w.extractLsb' 23 8
  let fraction : BitVec 23 := w.extractLsb' 0 23
  if exp.toNat = 255 then (if fraction = 0 then .infinity neg else .nan neg fraction)
  else if exp.toNat = 0 then (if fraction = 0 then .zero neg else .finite neg fraction.toNat (-149))
  else .finite neg (2 ^ 23 + fraction.toNat) ((exp.toNat : Int) - 150)

/-- The packet of a frame of a class: the fields the frame has, and the defaults of R35 for the others. -/
def framePacket (id cmd : Byte) (addr size : Word16) (data : List Byte) : Packet :=
  { id := id, cmd := cmd, addr := addr, size := size, data := data }

/-- What the codec does with a packet of a frame class (R87): the executing host gets the bytes SERIALIZE writes for it
and PARSE's answer to those bytes; no block state is touched (R100). DESIGN CHOICE, log entry 9. -/
def State.presentFrame (p : Packet) (s : State) : State := s.reply (.frame (serialize p) (parse (serialize p)))

end Sys2Proof.Machine
end

