-- ==== Sys2Proof/Machine/Codec.lean ====
section
/-! DEFINITION. The codec operations (spec 40): pure functions of their operands, whose value goes to the issuing host
(R100). -/

namespace Sys2Proof.Machine

/-- SERIALIZE (R101). -/
def execSerialize (p : Packet) (s : State) : Host.Outcome State Fault Refusal := .next (s.reply (.bytes (serialize p)))

/-- PARSE (R103). -/
def execParse (f : List Byte) (s : State) : Host.Outcome State Fault Refusal := .next (s.reply (.parsed (parse f)))

/-- VARIABLES (R108): only `p.data` is read. -/
def execVariables (p : Packet) (s : State) : Host.Outcome State Fault Refusal :=
  .next (s.reply (.words (variableWords p.data)))

/-- AS_U32 (R110). -/
def execAsU32 (w : Word32) (s : State) : Host.Outcome State Fault Refusal := .next (s.reply (.nat (asU32 w)))

/-- AS_I32 (R111). -/
def execAsI32 (w : Word32) (s : State) : Host.Outcome State Fault Refusal := .next (s.reply (.int (asI32 w)))

/-- AS_F32 (R112). -/
def execAsF32 (w : Word32) (s : State) : Host.Outcome State Fault Refusal := .next (s.reply (.float (asF32 w)))

end Sys2Proof.Machine
end

