-- ==== Sys2Proof/Machine/Frames.lean ====
section
/-! DEFINITION. The frame classes (R78 to R81): for each, what the codec does with a frame of the class (R87). -/

namespace Sys2Proof.Machine

/-- GETSIZE.REQ (R78): 4 bytes. -/
def execGetsizeReq (id : Byte) (addr : Word16) (s : State) : Host.Outcome State Fault Refusal :=
  .next (s.presentFrame (framePacket id 0x01 addr 0 []))

/-- GETSIZE.OK (R78): 4 bytes and the data; it parses only with 4 bytes of data. -/
def execGetsizeOk (id : Byte) (addr : Word16) (data : List Byte) (s : State) : Host.Outcome State Fault Refusal :=
  .next (s.presentFrame (framePacket id 0x11 addr 0 data))

/-- GETSIZE.ERR (R78): 4 bytes. -/
def execGetsizeErr (id : Byte) (result : Nibble) (addr : Word16) (s : State) : Host.Outcome State Fault Refusal :=
  .next (s.presentFrame (framePacket id (cmdByte result 0x1) addr 0 []))

/-- GETBUF_B.REQ (R79): 6 bytes. -/
def execGetbufBReq (id : Byte) (addr size : Word16) (s : State) : Host.Outcome State Fault Refusal :=
  .next (s.presentFrame (framePacket id 0x02 addr size []))

/-- GETBUF_B.OK (R79): 6 bytes and the data; it parses only when `size` counts the data bytes (C3). -/
def execGetbufBOk (id : Byte) (addr size : Word16) (data : List Byte) (s : State) :
    Host.Outcome State Fault Refusal :=
  .next (s.presentFrame (framePacket id 0x12 addr size data))

/-- GETBUF_B.ERR (R79): 6 bytes. -/
def execGetbufBErr (id : Byte) (result : Nibble) (addr size : Word16) (s : State) :
    Host.Outcome State Fault Refusal :=
  .next (s.presentFrame (framePacket id (cmdByte result 0x2) addr size []))

/-- PUTBUF_B.REQ (R80): 6 bytes and the data, whatever `size` holds (C4); with data it does not parse (C6). -/
def execPutbufBReq (id : Byte) (addr size : Word16) (data : List Byte) (s : State) :
    Host.Outcome State Fault Refusal :=
  .next (s.presentFrame (framePacket id 0x04 addr size data))

/-- PUTBUF_B.OK (R80): 6 bytes, the acknowledgement. -/
def execPutbufBOk (id : Byte) (addr size : Word16) (s : State) : Host.Outcome State Fault Refusal :=
  .next (s.presentFrame (framePacket id 0x14 addr size []))

/-- PUTBUF_B.ERR (R80): 6 bytes. -/
def execPutbufBErr (id : Byte) (result : Nibble) (addr size : Word16) (s : State) :
    Host.Outcome State Fault Refusal :=
  .next (s.presentFrame (framePacket id (cmdByte result 0x4) addr size []))

/-- GETBUF (R81): reserved; 4 bytes, UnknownCommand. -/
def execGetbuf (id : Byte) (result : Nibble) (addr : Word16) (s : State) : Host.Outcome State Fault Refusal :=
  .next (s.presentFrame (framePacket id (cmdByte result 0x3) addr 0 []))

/-- PUTBUF (R81): reserved; 4 bytes, UnknownCommand. -/
def execPutbuf (id : Byte) (result : Nibble) (addr : Word16) (s : State) : Host.Outcome State Fault Refusal :=
  .next (s.presentFrame (framePacket id (cmdByte result 0x5) addr 0 []))

/-- UNDEF.CODE0 (R81): 4 bytes, UnknownCommand. -/
def execUndefCode0 (id : Byte) (result : Nibble) (addr : Word16) (s : State) : Host.Outcome State Fault Refusal :=
  .next (s.presentFrame (framePacket id (cmdByte result 0x0) addr 0 []))

/-- UNDEF.CODE6_7 (R81): 4 bytes, UnknownCommand. -/
def execUndefCode67 (id : Byte) (result : Nibble) (low : BitVec 1) (addr : Word16) (s : State) :
    Host.Outcome State Fault Refusal :=
  .next (s.presentFrame (framePacket id (cmdByte result (0b011#3 ++ low : BitVec 4)) addr 0 []))

/-- UNDEF.CODE8_F (R81): 4 bytes, UnknownCommand. -/
def execUndefCode8F (id : Byte) (result : Nibble) (low : BitVec 3) (addr : Word16) (s : State) :
    Host.Outcome State Fault Refusal :=
  .next (s.presentFrame (framePacket id (cmdByte result (0b1#1 ++ low : BitVec 4)) addr 0 []))

end Sys2Proof.Machine
end

