-- ==== Sys2Proof/Machine/Statistics.lean ====
section
/-! DEFINITION. The result, status and statistics operations POLL, WAIT, STAT and STAT_RESET (spec 42). -/

namespace Sys2Proof.Machine

/-- POLL (R160): reads and does not consume. -/
def execPoll (s : State) : Host.Outcome State Fault Refusal := .next (s.reply s.resultReply)

/-- WAIT (R161): returns at once when the sequencer is free; else the host is held, until the
step that executes `finish`, or a reset, lifts the hold (`State.release`). -/
def execWait (s : State) : Host.Outcome State Fault Refusal :=
  if s.busy then .next s.hold else .next (s.reply s.resultReply)

/-- STAT (R162): indexes 6 and 7 are refused. -/
def execStat (idx : BitVec 3) (s : State) : Host.Outcome State Fault Refusal :=
  match s.cnt.get? idx with
  | some v => .next (s.reply (.counter v))
  | none => .next (s.refuse .badCounterIndex)

/-- STAT_RESET (R163): all six counters in one transition. -/
def execStatReset (s : State) : Host.Outcome State Fault Refusal :=
  .next ({ s with cnt := Counters.zero }.reply (.status .stOk))

end Sys2Proof.Machine
end

