-- ==== Sys2Proof/Machine/Transaction.lean ====
section
/-! DEFINITION. The host operation TXN (spec 41 section 1). -/

namespace Sys2Proof.Machine

/-- TXN (R130): too long a request is refused, a busy sequencer answers ST_BUSY with no other effect (R190), a free
one takes the request. -/
def execTxn (port : PortId) (baud tmo : Word32) (req : List Byte) (s : State) : Host.Outcome State Fault Refusal :=
  if s.par.reqCap < req.length then .next (s.refuse .requestTooLong)
  else if s.busy then .next (s.reply (.status .stBusy))
  else .next ((s.accept { port := port, baud := baud, tmo := tmo } req).reply (.status .stOk))

end Sys2Proof.Machine
end

