-- ==== Sys2Proof/Machine/Dispatch.lean ====
section
/-! DEFINITION. One arm per instruction: each calls its own meaning. -/

namespace Sys2Proof.Machine

def exec (i : Instr) (s : State) : Host.Outcome State Fault Refusal :=
  match i with
  | .txn port baud tmo req => Sys2Proof.Machine.execTxn port baud tmo req s
  | .poll => Sys2Proof.Machine.execPoll s
  | .wait => Sys2Proof.Machine.execWait s
  | .stat idx => Sys2Proof.Machine.execStat idx s
  | .statReset => Sys2Proof.Machine.execStatReset s
  | .serialize p => Sys2Proof.Machine.execSerialize p s
  | .parse f => Sys2Proof.Machine.execParse f s
  | .variableWords p => Sys2Proof.Machine.execVariables p s
  | .asU32 w => Sys2Proof.Machine.execAsU32 w s
  | .asI32 w => Sys2Proof.Machine.execAsI32 w s
  | .asF32 w => Sys2Proof.Machine.execAsF32 w s
  | .getsizeReq id addr => Sys2Proof.Machine.execGetsizeReq id addr s
  | .getsizeOk id addr data => Sys2Proof.Machine.execGetsizeOk id addr data s
  | .getsizeErr id result addr => Sys2Proof.Machine.execGetsizeErr id result addr s
  | .getbufBReq id addr size => Sys2Proof.Machine.execGetbufBReq id addr size s
  | .getbufBOk id addr size data => Sys2Proof.Machine.execGetbufBOk id addr size data s
  | .getbufBErr id result addr size => Sys2Proof.Machine.execGetbufBErr id result addr size s
  | .putbufBReq id addr size data => Sys2Proof.Machine.execPutbufBReq id addr size data s
  | .putbufBOk id addr size => Sys2Proof.Machine.execPutbufBOk id addr size s
  | .putbufBErr id result addr size => Sys2Proof.Machine.execPutbufBErr id result addr size s
  | .getbuf id result addr => Sys2Proof.Machine.execGetbuf id result addr s
  | .putbuf id result addr => Sys2Proof.Machine.execPutbuf id result addr s
  | .undefCode0 id result addr => Sys2Proof.Machine.execUndefCode0 id result addr s
  | .undefCode67 id result low addr => Sys2Proof.Machine.execUndefCode67 id result low addr s
  | .undefCode8F id result low addr => Sys2Proof.Machine.execUndefCode8F id result low addr s

end Sys2Proof.Machine
end

