-- ==== Sys2Proof/Machine/Sequencer.lean ====
section
/-! DEFINITION. The steps of the transaction sequencer (spec 41 section 3) and their selection by the link's draw
(R141, R196). -/

namespace Sys2Proof.Machine

/-- The request `open(CFG_PORT, CFG_BAUD)` with its answer is put on record (R196, log entry 11). -/
def State.noteOpen (ok : Bool) (s : State) : State := { s with requests := .openPort s.cfg ok :: s.requests }

/-- The request `write(TXF)` with its answer is put on record (R196, log entry 11). -/
def State.noteWrite (ok : Bool) (s : State) : State := { s with requests := .write s.txf ok :: s.requests }

/-- OPEN-FAIL (R134). -/
def State.openFail (s : State) : State := (s.noteOpen false).finish .portOpenError []

/-- OPEN-OK (R134): the port is open and the frame is built. -/
def State.openOk (s : State) : State :=
  { s.noteOpen true with portOpen := true, txf := frameOf s.req, seq := .writing }

/-- WRITE-FAIL (R135): no counter changes. -/
def State.writeFail (s : State) : State := (s.noteWrite false).finish .writeError []

/-- WRITE-OK (R136): both TX counters in this one step. -/
def State.writeOk (s : State) : State :=
  { (s.noteWrite true).countTx s.txf.length with rxb := [], seq := .receiving }

/-- RX-BYTE (R137): a byte beyond RX_CAP is refused. -/
def State.rxByte (b : Byte) (s : State) : State :=
  if s.rxb.length = s.par.rxCap then s.refuse .rxOverflow else { s with rxb := s.rxb ++ [b] }

/-- RX-GAP-BAD (R138). -/
def State.rxGapBad (s : State) : State := s.countCrcError.finish .crcError []

/-- RX-GAP-OK (R139): both RX counters in this one step, and the payload without its trailer. -/
def State.rxGapOk (s : State) : State := (s.countRx s.rxb.length).finish .ok (stripOf s.rxb)

/-- RX-GAP: not enabled with RXB empty; else CHECK decides (R138, R139, R196). -/
def State.rxGap (s : State) : State :=
  if s.rxb = [] then s else if checkOf s.rxb then s.rxGapOk else s.rxGapBad

/-- RX-DEADLINE (R140): enabled whether or not RXB is empty. -/
def State.rxDeadline (s : State) : State := s.countTimeout.finish .timeout []

/-- OPEN takes the link's answer to `open` (R134). -/
def State.stepOpening (d : LinkEvent) (s : State) : State :=
  match d with
  | .openAnswer ok => if ok then s.openOk else s.openFail
  | .writeAnswer _ | .byte _ | .gap | .deadline => s

/-- WRITE takes the link's answer to `write` (R135, R136). -/
def State.stepWriting (d : LinkEvent) (s : State) : State :=
  match d with
  | .writeAnswer ok => if ok then s.writeOk else s.writeFail
  | .openAnswer _ | .byte _ | .gap | .deadline => s

/-- RECV takes a byte, the quiet gap or the deadline (R137 to R140). -/
def State.stepReceiving (d : LinkEvent) (s : State) : State :=
  match d with
  | .byte b => s.rxByte b
  | .gap => s.rxGap
  | .deadline => s.rxDeadline
  | .openAnswer _ | .writeAnswer _ => s

/-- The sequencer is scheduled with the draw `d` (R141). IDLE and DONE have no step; a draw that answers no request of
the state is not enabled (R196), bytes outside RECV are lost (D18): nothing happens. Log entry 5. -/
def State.seqStep (d : LinkEvent) (s : State) : State :=
  match s.seq with
  | .idle => s
  | .opening => s.stepOpening d
  | .writing => s.stepWriting d
  | .receiving => s.stepReceiving d
  | .done => s

end Sys2Proof.Machine
end

