-- ==== Sys2Proof/Machine/Schedule.lean ====
section
/-! DEFINITION. One transition of the schedule (R59, R197): a host's operation, a sequencer step, or reset. -/

namespace Sys2Proof.Machine

/-- A code that is no instruction: an unknown host opcode sets REFUSED (R72); bytes that are a frame of no class get the
answer PARSE has for them (R103), in the form every presented frame gets it (log entry 9). -/
def State.onReject (c : Code) (s : State) : State :=
  match c with
  | .hop _ => s.refuse .unknownHostOp
  | .frame f => s.reply (.frame f (parse f))

/-- The executing host gives a code: it is decoded and executed. -/
def execCode (c : Code) (s : State) : Host.Outcome State Fault Refusal :=
  match decode c with
  | .ok i => exec i s
  | .reject _ => .next (s.onReject c)

/-- One event. A host that may not issue has no step, and nothing happens (log entry 5). -/
def runEvent (e : Event) (s : State) : Host.Outcome State Fault Refusal :=
  match e with
  | .host h c => if s.mayIssue h then execCode c { s with caller := h } else .next s
  | .link d => .next (s.seqStep d)
  | .reset => .next s.resetBlock

/-- Host 0, not held, is scheduled next with the code of a word of the opcode table. -/
def State.scheduleCode (c : Code) (s : State) : State :=
  { s with env := .host 0 c :: s.env, held := s.held.filter (· != 0) }

end Sys2Proof.Machine
end

