-- ==== Sys2Proof/Machine/Step.lean ====
section
/-! DEFINITION. One step of the machine: the next event of the schedule is taken. -/

namespace Sys2Proof.Machine

def step (s : State) : Host.Outcome State Fault Refusal := runEvent s.nextEvent.1 s.nextEvent.2

/-- The operation of an opcode table word, placed where `step` takes its next event. -/
def State.withFetchWord (s : State) (nbits w : Nat) : State := s.scheduleCode (tableCode nbits w)

end Sys2Proof.Machine
end

