-- ==== Sys2Proof/Safety.lean ====
section
/-! DEFINITION. What claims about the block are stated in: its invariants (R37, R24 to R27, R34), the packet balance (R165),
the reset values (R38), the end of a run (R222), runs and their fairness (R221). -/

namespace Sys2Proof.Machine

/-- The seven invariants of R37. -/
structure State.SequencerInv (s : State) : Prop where
  port_open     : s.portOpen = true ↔ s.seq = .writing ∨ s.seq = .receiving
  rxb_empty     : s.seq ≠ .receiving → s.rxb = []
  idle_none     : s.seq = .idle → s.resultKind = .none ∧ s.resultData = []
  busy_none     : s.busy = true → s.resultKind = .none ∧ s.resultData = []
  done_some     : s.seq = .done → s.resultKind ≠ .none
  data_ok       : s.resultData ≠ [] → s.resultKind = .ok
  frame_written : s.seq = .writing ∨ s.seq = .receiving → s.txf = s.req ++ le16 (Config.crc16 s.req)

/-- The lengths and widths of R24 to R27 and R34: the configuration is present once a transaction was accepted, REQ and
RXB keep their capacities, TXF is REQ and its trailer once written, every counter fits W_CNT bits; a host is
held in WAIT only while the sequencer is busy (R161), and the list of held hosts has no repeats (the model's own form of
it). -/
structure State.CapacityInv (s : State) : Prop where
  cfg_present : s.seq ≠ .idle → s.cfg ≠ none
  req_cap     : s.req.length ≤ s.par.reqCap
  rxb_cap     : s.rxb.length ≤ s.par.rxCap
  txf_length  : s.txf = [] ∨ s.txf.length = s.req.length + 2
  tx_bytes    : s.cnt.txBytes < 2 ^ s.par.wCnt
  rx_bytes    : s.cnt.rxBytes < 2 ^ s.par.wCnt
  tx_packets  : s.cnt.txPackets < 2 ^ s.par.wCnt
  rx_packets  : s.cnt.rxPackets < 2 ^ s.par.wCnt
  crc_errors  : s.cnt.crcErrors < 2 ^ s.par.wCnt
  time_outs   : s.cnt.timeouts < 2 ^ s.par.wCnt
  held_busy   : s.held ≠ [] → s.busy = true
  held_once   : s.held.Nodup

/-- `TX_PACKETS = RX_PACKETS + CRC_ERRORS + TIMEOUTS` outside RECV (R165), and one more in RECV, all modulo `2^W_CNT`,
so that it holds across a wrap too. -/
def State.PacketBalance (s : State) : Prop :=
  s.cnt.txPackets % 2 ^ s.par.wCnt
    = (s.cnt.rxPackets + s.cnt.crcErrors + s.cnt.timeouts + (if s.seq = .receiving then 1 else 0)) % 2 ^ s.par.wCnt

/-- The reset values of R38, less REFUSED, which reset does not change. -/
structure State.AtResetValues (s : State) : Prop where
  seq_idle    : s.seq = .idle
  cfg_absent  : s.cfg = none
  req_empty   : s.req = []
  txf_empty   : s.txf = []
  rxb_empty   : s.rxb = []
  port_closed : s.portOpen = false
  kind_none   : s.resultKind = .none
  data_empty  : s.resultData = []
  status_zero : s.status = 0x00000000#32
  counters    : s.cnt = ⟨0, 0, 0, 0, 0, 0⟩

/-- A run is at its end (R222): no host is held in WAIT and the sequencer is free. "A run in which `REFUSED = 1` has no
end", so REFUSED is 0 too. -/
def State.atEnd (s : State) : Bool := s.held.isEmpty && !s.busy && !s.refusedMark

/-- What a run that has come to its end has observed (R222): the values the host operations returned, the oldest first,
and the final RESULT_KIND, RESULT_DATA and CNT; none before the end. -/
def State.observed? (s : State) : Option (List (Nat × Reply) × ResultKind × List Byte × Counters) :=
  if s.atEnd then some (s.replies.reverse, s.resultKind, s.resultData, s.cnt) else none

/-- The premise of every claim about a run (R33): REFUSED is 0. -/
def State.sound (s : State) : Bool := !s.refusedMark

/-! ## Runs and fairness (R59, R189, R221) -/

/-- A transition of a run: the event `e` takes `s` to `t`. What stands in the schedule of the states is left open, so that a
run of `step`, which takes the events from there, is one of these runs (`takes_of_step`), and so is a run whose events
are chosen from outside for ever. -/
def Takes (e : Event) (s t : State) : Prop :=
  ∃ env tick, runEvent e { s with env := env, tick := tick } = .next t

/-- An infinite run: the event `sched n` takes state `r n` to state `r (n + 1)` (R59). -/
def IsRun (sched : Nat → Event) (r : Nat → State) : Prop := ∀ n, Takes (sched n) (r n) (r (n + 1))

/-- Is the draw one the link may give in this state (R141, R196)? -/
def State.enables (s : State) (d : LinkEvent) : Bool :=
  match s.seq, d with
  | .opening, .openAnswer _ => true
  | .writing, .writeAnswer _ => true
  | .receiving, .byte _ => true
  | .receiving, .gap => !s.rxb.isEmpty
  | .receiving, .deadline => true
  | _, _ => false

/-- Does the event move the sequencer, by a draw that is enabled? -/
def State.sequencerMoves (s : State) (e : Event) : Bool :=
  match e with
  | .link d => s.enables d
  | .host _ _ => false
  | .reset => false

/-- Does the event deliver a byte in RECV (RX-BYTE, R137)? -/
def State.receivesByte (s : State) (e : Event) : Bool :=
  match e with
  | .link (.byte b) => s.enables (.byte b)
  | .link (.openAnswer _) | .link (.writeAnswer _) | .link .gap | .link .deadline => false
  | .host _ _ => false
  | .reset => false

/-- Weak fairness (R221): of the sequencer's steps, one of which is enabled as long as the sequencer is busy (R141), and
of the link's `deadline`. What is enabled from some moment on without a break is taken at some later moment. -/
structure WeaklyFair (sched : Nat → Event) (r : Nat → State) : Prop where
  sequencer : ∀ n, (∀ m, n ≤ m → (r m).busy = true) → ∃ m, n ≤ m ∧ (r m).sequencerMoves (sched m) = true
  deadline  : ∀ n, (∀ m, n ≤ m → (r m).enables .deadline = true) → ∃ m, n ≤ m ∧ sched m = .link .deadline

/-- The events that end a transaction (R221): a failed open, a failed write, the quiet gap, the deadline. -/
def endsTransaction (e : Event) : Bool :=
  e == .link (.openAnswer false) || e == .link (.writeAnswer false) || e == .link .gap || e == .link .deadline

end Sys2Proof.Machine
end

