-- ==== Sys2Proof/Certificates/Slice0/Obligations.lean ====
section
/-! DEFINITION. The statements for the provers, each one the rule its docstring cites. Next states are written out as
record updates of the state before, so that every statement says its frame too: what is not named is unchanged. Values of
fields are written in the arithmetic of R10 to R12 (`% 16`, `/ 16`, `% 256`, `/ 256`), not with the model's helpers. -/

open Sys2Proof Sys2Proof.Machine

/-! ## Encodings -/

/-- For every well-formed instruction, decoding its code gives it back (R70, R71, R77 to R81, R87). -/
def Obligations.DecodeUndoesEncode : Prop :=
  ∀ i : Instr, i.WellFormed = true → decode (encode i) = .ok i

/-- What the decoder answers is well-formed, and its code is what was decoded: the same bytes of a frame, the same opcode
of a host operation (R71, R77 to R81, R87). -/
def Obligations.DecodedInstructionsReencode : Prop :=
  ∀ (c : Code) (i : Instr), decode c = .ok i →
    i.WellFormed = true
    ∧ (∀ f, c = .frame f → encode i = .frame f)
    ∧ (∀ k, c = .hop k → ∃ k', encode i = .hop k' ∧ k'.op = k.op)

/-- Exactly one FRM row matches each command byte (R87), and a byte list decodes exactly when it has a length that the layout
of its class gives (R77 to R81). That a list of any other length decodes to no instruction is the model's choice (log
entry 9): R87 matches on `cmd` alone, and R81 speaks of such frames of 4 or more bytes. -/
def Obligations.FrameClassesAndLengths : Prop :=
  (∀ cmd : Byte, (frameRows.filter (fun r => r.hits cmd)).length = 1)
  ∧ ∀ f : List Byte,
      let code : Nat := (f.getD 1 0).toNat % 16
      let result : Nat := (f.getD 1 0).toNat / 16
      (∃ i, decode (.frame f) = .ok i) ↔
        4 ≤ f.length ∧
          (if code = 1 ∧ result = 1 then True
           else if (code = 2 ∧ result = 1) ∨ (code = 4 ∧ result = 0) then 6 ≤ f.length
           else if code = 2 ∨ code = 4 then f.length = 6
           else f.length = 4)

/-- The host opcode map (R71): each opcode is its operation, with the operands of its row. -/
def Obligations.HostOpcodesDecodeToTheirOperations : Prop :=
  ∀ k : HostCall,
    (k.op = 0x01 → decode (.hop k) = .ok (.txn k.port k.baud k.tmo k.bytes))
    ∧ (k.op = 0x02 → decode (.hop k) = .ok .poll)
    ∧ (k.op = 0x03 → decode (.hop k) = .ok .wait)
    ∧ (∀ idx : BitVec 3, k.op.toNat = 16 + idx.toNat → decode (.hop k) = .ok (.stat idx))
    ∧ (k.op = 0x20 → decode (.hop k) = .ok .statReset)
    ∧ (k.op = 0x40 → decode (.hop k) = .ok (.serialize k.packet))
    ∧ (k.op = 0x41 → decode (.hop k) = .ok (.parse k.bytes))
    ∧ (k.op = 0x42 → decode (.hop k) = .ok (.variableWords k.packet))
    ∧ (k.op = 0x43 → decode (.hop k) = .ok (.asU32 k.word))
    ∧ (k.op = 0x44 → decode (.hop k) = .ok (.asI32 k.word))
    ∧ (k.op = 0x45 → decode (.hop k) = .ok (.asF32 k.word))

/-- R72: at most one row matches any opcode; an opcode that matches none, and a STAT opcode with index 6 or 7, is refused:
REFUSED is set, nothing is returned, and the block is untouched. -/
def Obligations.UndefinedHostOpcodesAreRefused : Prop :=
  ∀ (s : State) (h : Nat) (k : HostCall) (rest : List Event),
    s.env = .host h (.hop k) :: rest → h ≤ s.par.extraHosts → h ∉ s.held →
    (hopRows.filter (fun r => r.hits k.op)).length ≤ 1
    ∧ (k.op.toNat ∉ [1, 2, 3, 16, 17, 18, 19, 20, 21, 22, 23, 32, 64, 65, 66, 67, 68, 69] →
        step s = .next { s with env := rest, caller := h, refusal := some .unknownHostOp })
    ∧ (k.op = 0x16 ∨ k.op = 0x17 →
        step s = .next { s with env := rest, caller := h, refusal := some .badCounterIndex })

/-- A few codes written out from the spec's encodings: W2, V-S6, V-P14, V-P19 (95), R71, and a frame too short. -/
def Obligations.SpelledCodesDecode : Prop :=
  decode (.frame [0x05, 0x01, 0x10, 0x00]) = .ok (.getsizeReq 5 0x0010)
  ∧ decode (.frame [0x01, 0x12, 0x34, 0x12, 0x02, 0x00, 0xAA, 0xBB]) = .ok (.getbufBOk 1 0x1234 2 [0xAA, 0xBB])
  ∧ decode (.frame [0x01, 0x14, 0x00, 0x01, 0x04, 0x00]) = .ok (.putbufBOk 1 0x0100 4)
  ∧ decode (.frame [0x01, 0xF2, 0x34, 0x12, 0x05, 0x00]) = .ok (.getbufBErr 1 0xF 0x1234 5)
  ∧ decode (.hop { op := 0x14 }) = .ok (.stat 4)
  ∧ decode (.hop { op := 0x44, word := 0xFFFFFFF6 }) = .ok (.asI32 0xFFFFFFF6)
  ∧ decode (.frame [0x05, 0x01, 0x10]) = .reject .frameTooShort

/-- When the schedule's next event is host `h` giving a code that decodes to `i`, and `h` may issue, the step is `exec` of
`i` on the state without that event, with `h` as the executing host. The schedule and the executing host are the model's
own (log entries 4, 9 and 11). -/
def Obligations.StepRunsDecodedInstruction : Prop :=
  ∀ (s : State) (h : Nat) (c : Code) (i : Instr) (rest : List Event),
    s.env = .host h c :: rest → h ≤ s.par.extraHosts → h ∉ s.held → decode c = .ok i →
    step s = exec i { s with env := rest, caller := h }

/-- Bytes that are a frame of no class are not stopped on: the host gets PARSE's answer to them, which is always an error,
in the order of R107. Presenting a frame is the model's own event (log entry 9). -/
def Obligations.RejectedFrameGetsParseError : Prop :=
  ∀ (s : State) (h : Nat) (f : List Byte) (r : DecodeReject) (rest : List Event),
    s.env = .host h (.frame f) :: rest → h ≤ s.par.extraHosts → h ∉ s.held → decode (.frame f) = .reject r →
    step s = .next { s with
      env := rest
      caller := h
      replies := (h, .frame f (.error
        (if f.length < 4 then .frameTooShort
         else if (f.getD 1 0).toNat % 16 ∉ [1, 2, 4] then .unknownCommand
         else .trailingOrMissingBytes))) :: s.replies }

/-! ## Reset and invariants -/

/-- R38: the machine right after reset, and the state any reset leaves, have the table's values; REFUSED is 0 at the start
and is not changed by a reset. -/
def Obligations.ResetLeavesTheTableValues : Prop :=
  State.reset.AtResetValues ∧ State.reset.refusedMark = false
  ∧ ∀ (s : State) (rest : List Event), s.env = .reset :: rest →
      ∃ t, step s = .next t ∧ t.AtResetValues ∧ t.refusedMark = s.refusedMark

/-- R210, R211: a reset, whatever is outstanding, leaves the block as after reset with no outcome recorded, and every held
host is released with `(0x00000000, [])`; nothing else changes. The order of the values among several held hosts is the
model's choice (log entry 7), as are the fields `replies` and `held`. -/
def Obligations.ResetAbortsAndReleasesHolds : Prop :=
  ∀ (s : State) (rest : List Event), s.env = .reset :: rest →
    step s = .next { State.reset with
      par := s.par
      refusal := s.refusal
      caller := s.caller
      requests := s.requests
      tick := s.tick
      env := rest
      replies := s.held.map (fun h => (h, .result 0x00000000 [])) ++ s.replies }

/-- R37: every step keeps the seven invariants. -/
def Obligations.StepKeepsSequencerInvariant : Prop :=
  ∀ s t : State, s.SequencerInv → step s = .next t → t.SequencerInv

/-- The reset state meets the seven invariants of R37. -/
def Obligations.ResetMeetsSequencerInvariant : Prop := State.reset.SequencerInv

/-- Every step keeps the lengths, capacities and counter widths of R24 to R27 and R34, and that a host is held in WAIT only
while the sequencer is busy (R161; the list of held hosts, without repeats, is the model's form, log entry 6). -/
def Obligations.StepKeepsCapacities : Prop :=
  ∀ s t : State, s.CapacityInv → step s = .next t → t.CapacityInv

/-- The reset state meets the lengths, capacities and counter widths, and holds no host. -/
def Obligations.ResetMeetsCapacities : Prop := State.reset.CapacityInv

/-- From every state a step answers a next state: nothing is fatal to the engine (R185). It is the model's choice that an
event that is not enabled is a step that changes nothing (log entry 5; R141 says that IDLE and DONE have no sequencer
step), that a refusal is a next state (log entry 8), and that the schedule never runs out (log entry 4). -/
def Obligations.EveryStepAnswersNextState : Prop :=
  ∀ s : State, ∃ t, step s = .next t

/-- No step clears REFUSED, not even reset (R33), and no step changes a parameter (R8). -/
def Obligations.StepKeepsRefusedMarkAndParameters : Prop :=
  ∀ s t : State, step s = .next t →
    t.par = s.par ∧ (s.refusedMark = true → t.refusedMark = true)

/-- Only an accepted TXN, a sequencer step of a busy sequencer and reset write SEQ (R22). -/
def Obligations.OnlyTransactionSequencerAndResetMoveSeq : Prop :=
  ∀ s t : State, step s = .next t → t.seq ≠ s.seq →
    s.nextEvent.1 = .reset
    ∨ (∃ d, s.nextEvent.1 = .link d ∧ (s.seq = .opening ∨ s.seq = .writing ∨ s.seq = .receiving))
    ∨ (∃ h c port baud tmo req, s.nextEvent.1 = .host h c ∧ decode c = .ok (.txn port baud tmo req)
        ∧ (s.seq = .idle ∨ s.seq = .done) ∧ t.seq = .opening)

/-- What can change a counter (R34): WRITE-OK, a passing RX-GAP, a failing RX-GAP, RX-DEADLINE, by the amounts of the table
modulo `2^W_CNT`; STAT_RESET and reset write 0 to all; nothing else writes one. -/
def Obligations.CountersMoveAsTheTableSays : Prop :=
  ∀ s t : State, step s = .next t →
    t.cnt = s.cnt
    ∨ (t.cnt = ⟨0, 0, 0, 0, 0, 0⟩
        ∧ (s.nextEvent.1 = .reset ∨ ∃ h c, s.nextEvent.1 = .host h c ∧ decode c = .ok .statReset))
    ∨ (s.seq = .writing ∧ s.nextEvent.1 = .link (.writeAnswer true)
        ∧ t.cnt = { s.cnt with
            txBytes := (s.cnt.txBytes + s.txf.length) % 2 ^ s.par.wCnt
            txPackets := (s.cnt.txPackets + 1) % 2 ^ s.par.wCnt })
    ∨ (s.seq = .receiving ∧ s.nextEvent.1 = .link .gap ∧ t.resultKind = .ok
        ∧ t.cnt = { s.cnt with
            rxBytes := (s.cnt.rxBytes + s.rxb.length) % 2 ^ s.par.wCnt
            rxPackets := (s.cnt.rxPackets + 1) % 2 ^ s.par.wCnt })
    ∨ (s.seq = .receiving ∧ s.nextEvent.1 = .link .gap ∧ t.resultKind = .crcError
        ∧ t.cnt = { s.cnt with crcErrors := (s.cnt.crcErrors + 1) % 2 ^ s.par.wCnt })
    ∨ (s.seq = .receiving ∧ s.nextEvent.1 = .link .deadline
        ∧ t.cnt = { s.cnt with timeouts := (s.cnt.timeouts + 1) % 2 ^ s.par.wCnt })

/-- The completion signal (R192): it is bit 4 of STATUS, 1 exactly while SEQ is DONE; only a finishing step of a busy sequencer raises it, and only
reset and an accepted TXN clear it. -/
def Obligations.DoneSignalMovesOnlyAtFinishTransactionAndReset : Prop :=
  ∀ s t : State, step s = .next t →
    (t.status.getLsbD 4 = t.doneSignal) ∧ (t.doneSignal = true ↔ t.seq = .done)
    ∧ (s.nextEvent.1 = .reset → t.doneSignal = false)
    ∧ (s.doneSignal = false → t.doneSignal = true →
        (∃ d, s.nextEvent.1 = .link d) ∧ (s.seq = .opening ∨ s.seq = .writing ∨ s.seq = .receiving))
    ∧ (s.doneSignal = true → t.doneSignal = false →
        s.nextEvent.1 = .reset
        ∨ ∃ h c port baud tmo req, s.nextEvent.1 = .host h c ∧ decode c = .ok (.txn port baud tmo req)
            ∧ t.seq = .opening)

/-- Every step but a STAT_RESET in the receive phase keeps the packet balance of R165. -/
def Obligations.StepKeepsPacketBalance : Prop :=
  ∀ s t : State, s.PacketBalance → step s = .next t →
    (¬ ∃ h c, s.nextEvent.1 = .host h c ∧ decode c = .ok .statReset ∧ s.seq = .receiving) →
    t.PacketBalance

/-- Monotonicity (R166): while no counter can wrap, a step that is no reset and no STAT_RESET lowers no counter. -/
def Obligations.CountersNeverDecreaseBeforeWrap : Prop :=
  ∀ s t : State, step s = .next t →
    s.nextEvent.1 ≠ .reset → (¬ ∃ h c, s.nextEvent.1 = .host h c ∧ decode c = .ok .statReset) →
    s.cnt.txBytes + s.txf.length < 2 ^ s.par.wCnt → s.cnt.rxBytes + s.rxb.length < 2 ^ s.par.wCnt →
    s.cnt.txPackets + 1 < 2 ^ s.par.wCnt → s.cnt.rxPackets + 1 < 2 ^ s.par.wCnt →
    s.cnt.crcErrors + 1 < 2 ^ s.par.wCnt → s.cnt.timeouts + 1 < 2 ^ s.par.wCnt →
    s.cnt.txBytes ≤ t.cnt.txBytes ∧ s.cnt.rxBytes ≤ t.cnt.rxBytes ∧ s.cnt.txPackets ≤ t.cnt.txPackets
    ∧ s.cnt.rxPackets ≤ t.cnt.rxPackets ∧ s.cnt.crcErrors ≤ t.cnt.crcErrors ∧ s.cnt.timeouts ≤ t.cnt.timeouts

/-! ## Host operations -/

/-- TXN (R130, R190): too long a request is refused; a busy sequencer answers ST_BUSY (code 0x6) and nothing else changes;
a free one takes the request, answers ST_OK (code 0x1), and STATUS reads 0x00000009 (OPEN, BUSY). -/
def Obligations.TransactionRequest : Prop :=
  ∀ (port : PortId) (baud tmo : Word32) (req : List Byte) (s : State),
    (s.par.reqCap < req.length →
      exec (.txn port baud tmo req) s = .next { s with refusal := some .requestTooLong })
    ∧ (req.length ≤ s.par.reqCap → (s.seq = .opening ∨ s.seq = .writing ∨ s.seq = .receiving) →
      HostStatus.stBusy.code = 0x6
      ∧ exec (.txn port baud tmo req) s = .next { s with replies := (s.caller, .status .stBusy) :: s.replies })
    ∧ (req.length ≤ s.par.reqCap → (s.seq = .idle ∨ s.seq = .done) →
      HostStatus.stOk.code = 0x1
      ∧ ∃ t, exec (.txn port baud tmo req) s = .next t ∧ t.status = 0x00000009
          ∧ t = { s with
              cfg := some ⟨port, baud, tmo⟩
              req := req
              txf := []
              rxb := []
              resultKind := .none
              resultData := []
              seq := .opening
              replies := (s.caller, .status .stOk) :: s.replies })

/-- R63, R131: of two hosts that issue TXN one after the other while the sequencer is free, the first claims the slot and
the second gets ST_BUSY with no effect. -/
def Obligations.FirstOfTwoTransactionsClaimsTheSlot : Prop :=
  ∀ (s : State) (h h' : Nat) (c c' : Code) (port port' : PortId) (baud baud' tmo tmo' : Word32)
    (req req' : List Byte) (rest : List Event),
    s.env = .host h c :: .host h' c' :: rest →
    decode c = .ok (.txn port baud tmo req) → decode c' = .ok (.txn port' baud' tmo' req') →
    h ≤ s.par.extraHosts → h' ≤ s.par.extraHosts → h ∉ s.held → h' ∉ s.held →
    req.length ≤ s.par.reqCap → req'.length ≤ s.par.reqCap → (s.seq = .idle ∨ s.seq = .done) →
    Host.Core.run core 2 s = .next { s with
      cfg := some ⟨port, baud, tmo⟩
      req := req
      txf := []
      rxb := []
      resultKind := .none
      resultData := []
      seq := .opening
      caller := h'
      env := rest
      replies := (h', .status .stBusy) :: (h, .status .stOk) :: s.replies }

/-- The STATUS word (R31, with the codes of R22 and R180): SEQ in bits [2:0], BUSY bit 3, DONE bit 4, KIND in bits
[11:8], and every other bit 0; it is 0 after reset. -/
def Obligations.StatusWordLayout : Prop :=
  State.reset.status = 0x00000000
  ∧ ∀ s : State, s.status.toNat =
    (match s.seq with | .idle => 0 | .opening => 1 | .writing => 2 | .receiving => 3 | .done => 4)
    + 8 * (if s.seq = .opening ∨ s.seq = .writing ∨ s.seq = .receiving then 1 else 0)
    + 16 * (if s.seq = .done then 1 else 0)
    + 256 * (match s.resultKind with
        | .none => 0 | .ok => 1 | .portOpenError => 2 | .writeError => 3 | .timeout => 4 | .crcError => 5)

/-- POLL (R160): it returns `(STATUS, RESULT_DATA)` and writes nothing, so a second POLL returns the same; in a state that
meets R37 it returns 0 and no data in IDLE, and KIND 0 and no data while busy. -/
def Obligations.PollReturnsStatusAndResult : Prop :=
  ∀ s : State,
    (∃ t, exec .poll s = .next t
      ∧ t = { s with replies := (s.caller, .result s.status s.resultData) :: s.replies }
      ∧ exec .poll t = .next { s with
          replies := (s.caller, .result s.status s.resultData)
            :: (s.caller, .result s.status s.resultData) :: s.replies })
    ∧ (s.SequencerInv → s.seq = .idle → s.status = 0x00000000 ∧ s.resultData = [])
    ∧ (s.SequencerInv → (s.seq = .opening ∨ s.seq = .writing ∨ s.seq = .receiving) →
        s.status.getLsbD 3 = true ∧ s.status.extractLsb' 8 4 = 0x0 ∧ s.resultData = [])

/-- WAIT (R161): with the sequencer free it returns at once what POLL returns; with the sequencer busy the host is held
(the model's list `held`) and nothing is returned. -/
def Obligations.WaitReturnsWhenFreeAndHoldsWhenBusy : Prop :=
  ∀ s : State,
    ((s.seq = .idle ∨ s.seq = .done) → exec .wait s = exec .poll s
      ∧ exec .wait s = .next { s with replies := (s.caller, .result s.status s.resultData) :: s.replies })
    ∧ ((s.seq = .opening ∨ s.seq = .writing ∨ s.seq = .receiving) →
      ∃ t, exec .wait s = .next t ∧ (∀ h, h ∈ t.held ↔ h = s.caller ∨ h ∈ s.held)
        ∧ t = { s with held := t.held })

/-- The hold of WAIT is lifted by the step that executes `finish`, and by a reset, and by nothing else (R161, R211): a step
that makes SEQ DONE holds no host any more, and each that was held gets the STATUS and RESULT_DATA of the finished
transaction; a host is no longer held only after such a step or a reset. That the value is returned in the same
transition, and in which order several hosts get it, is the model's reading (log entries 6 and 7). -/
def Obligations.HoldIsLiftedExactlyByFinishAndReset : Prop :=
  ∀ s t : State, step s = .next t →
    (s.seq ≠ .done → t.seq = .done →
      t.held = [] ∧ t.replies = s.held.map (fun h => (h, .result t.status t.resultData)) ++ s.replies)
    ∧ ∀ h, h ∈ s.held → h ∉ t.held →
        s.nextEvent.1 = .reset
        ∨ ((s.seq = .opening ∨ s.seq = .writing ∨ s.seq = .receiving) ∧ t.seq = .done)

/-- A held host issues nothing (R16), and an index that is no host of the block issues nothing (R197): such an event of the
schedule changes nothing (log entry 5). -/
def Obligations.HostThatMayNotIssueHasNoStep : Prop :=
  ∀ (s : State) (h : Nat) (c : Code) (rest : List Event), s.env = .host h c :: rest →
    (h ∈ s.held ∨ s.par.extraHosts < h) → step s = .next { s with env := rest }

/-- STAT (R162): indexes 0 to 5 return the counter of R34's table; 6 and 7 are refused. -/
def Obligations.StatReadsTheIndexedCounter : Prop :=
  ∀ (idx : BitVec 3) (s : State),
    (∀ v, (idx.toNat, v) ∈ [(0, s.cnt.txBytes), (1, s.cnt.rxBytes), (2, s.cnt.txPackets), (3, s.cnt.rxPackets),
        (4, s.cnt.crcErrors), (5, s.cnt.timeouts)] →
      exec (.stat idx) s = .next { s with replies := (s.caller, .counter v) :: s.replies })
    ∧ (5 < idx.toNat → exec (.stat idx) s = .next { s with refusal := some .badCounterIndex })

/-- STAT_RESET (R163): all six counters are 0 in one transition, ST_OK is returned, nothing else changes; and every STAT on
the state it leaves returns 0. -/
def Obligations.StatResetZeroesAllCounters : Prop :=
  ∀ s : State, ∃ t, exec .statReset s = .next t
    ∧ t = { s with cnt := ⟨0, 0, 0, 0, 0, 0⟩, replies := (s.caller, .status .stOk) :: s.replies }
    ∧ ∀ idx : BitVec 3, idx.toNat ≤ 5 →
        exec (.stat idx) t = .next { t with replies := (t.caller, .counter 0) :: t.replies }

/-! ## The codec -/

/-- SERIALIZE (R101): the header, `size` for GETBUF_B and PUTBUF_B, and `data` in exactly the three cases of the rule. -/
def Obligations.SerializeWritesItsFields : Prop :=
  ∀ (p : Packet) (s : State),
    let code : Nat := p.cmd.toNat % 16
    let result : Nat := p.cmd.toNat / 16
    exec (.serialize p) s = .next { s with replies := (s.caller, .bytes (
      [p.id, p.cmd, BitVec.ofNat 8 (p.addr.toNat % 256), BitVec.ofNat 8 (p.addr.toNat / 256)]
      ++ (if code = 2 ∨ code = 4 then
            [BitVec.ofNat 8 (p.size.toNat % 256), BitVec.ofNat 8 (p.size.toNat / 256)] else [])
      ++ (if (code = 4 ∧ result = 0) ∨ (code = 2 ∧ result = 1) ∨ (code = 1 ∧ result = 1) then p.data
          else []))) :: s.replies }

/-- The length of what SERIALIZE returns (R102). -/
def Obligations.SerializeLength : Prop :=
  ∀ p : Packet,
    let code : Nat := p.cmd.toNat % 16
    let result : Nat := p.cmd.toNat / 16
    (serialize p).length = 4 + (if code = 2 ∨ code = 4 then 2 else 0)
      + (if (code = 4 ∧ result = 0) ∨ (code = 2 ∧ result = 1) ∨ (code = 1 ∧ result = 1) then p.data.length else 0)

/-- PARSE (R103, R107): which of the three errors a byte list gets, in their order and with their codes, or the packet. The
length that code, result and `size` require is that of R83. -/
def Obligations.ParseAnswersByCodeAndCount : Prop :=
  ParseError.frameTooShort.code = 0x8 ∧ ParseError.trailingOrMissingBytes.code = 0x9
  ∧ ParseError.unknownCommand.code = 0xA ∧ (∀ p, (ParseResult.ok p).code = 0x1)
  ∧ ∀ (f : List Byte) (s : State),
    let code : Nat := (f.getD 1 0).toNat % 16
    let result : Nat := (f.getD 1 0).toNat / 16
    let addr : Nat := (f.getD 2 0).toNat + 256 * (f.getD 3 0).toNat
    let size : Nat := (f.getD 4 0).toNat + 256 * (f.getD 5 0).toNat
    let required : Nat :=
      if code = 1 then (if result = 1 then 8 else 4) else if code = 2 ∧ result = 1 then 6 + size else 6
    exec (.parse f) s = .next { s with replies := (s.caller, .parsed (
      if f.length < 4 then .error .frameTooShort
      else if code ≠ 1 ∧ code ≠ 2 ∧ code ≠ 4 then .error .unknownCommand
      else if f.length ≠ required then .error .trailingOrMissingBytes
      else .ok {
        id := f.getD 0 0
        cmd := f.getD 1 0
        addr := BitVec.ofNat 16 addr
        size := if code = 1 then 0 else BitVec.ofNat 16 size
        data := f.drop (if code = 1 then 4 else 6) })) :: s.replies }

/-- The round-trip law (R109): a packet that PARSE returned serializes to the bytes it was parsed from, and these parse to
it again; and its limit: PARSE rejects what SERIALIZE writes for a PUTBUF_B request with data. -/
def Obligations.ParsedPacketsSerializeBack : Prop :=
  (∀ (f : List Byte) (p : Packet) (s : State),
    exec (.parse f) s = .next { s with replies := (s.caller, .parsed (.ok p)) :: s.replies } →
    exec (.serialize p) s = .next { s with replies := (s.caller, .bytes f) :: s.replies }
    ∧ exec (.parse (serialize p)) s = .next { s with replies := (s.caller, .parsed (.ok p)) :: s.replies })
  ∧ ∀ p : Packet, p.cmd = 0x04 → p.data ≠ [] → parse (serialize p) = .error .trailingOrMissingBytes

/-- VARIABLES (R108): the little-endian words of `data` in order, or none when the length is no multiple of 4. -/
def Obligations.VariablesReadLittleEndianWords : Prop :=
  ∀ (p : Packet) (s : State), ∃ ws : List Word32,
    exec (.variableWords p) s = .next { s with replies := (s.caller, .words ws) :: s.replies }
    ∧ (p.data.length % 4 ≠ 0 → ws = [])
    ∧ (p.data.length % 4 = 0 → ws.length = p.data.length / 4
        ∧ ∀ k, k < p.data.length / 4 → (ws.getD k 0).toNat =
            (p.data.getD (4 * k) 0).toNat + 2 ^ 8 * (p.data.getD (4 * k + 1) 0).toNat
            + 2 ^ 16 * (p.data.getD (4 * k + 2) 0).toNat + 2 ^ 24 * (p.data.getD (4 * k + 3) 0).toNat)

/-- AS_U32 and AS_I32 (R110, R111): the natural number of the word, and the integer of the signed 32-bit range that is
congruent to it modulo `2^32`. Two's complement is the spec's own general-knowledge reading (R13, I12; log entry 14). -/
def Obligations.WordsReadUnsignedAndSigned : Prop :=
  ∀ (w : Word32) (s : State),
    exec (.asU32 w) s = .next { s with replies := (s.caller, .nat w.toNat) :: s.replies }
    ∧ ∃ v : Int, exec (.asI32 w) s = .next { s with replies := (s.caller, .int v) :: s.replies }
        ∧ -2147483648 ≤ v ∧ v ≤ 2147483647 ∧ v % 4294967296 = (w.toNat : Int)
        ∧ (v < 0 ↔ w.getLsbD 31 = true)

/-- AS_F32 (R112): the datum of the sign bit, the biased exponent and the fraction; no two words give one datum. The
binary32 format is the spec's own general-knowledge reading (I13; log entry 14). -/
def Obligations.WordsReadAsBinary32 : Prop :=
  ∀ (w : Word32) (s : State),
    let neg : Bool := decide (w.toNat / 2 ^ 31 = 1)
    let exponent : Nat := w.toNat / 2 ^ 23 % 256
    let fraction : Nat := w.toNat % 2 ^ 23
    (∃ d, exec (.asF32 w) s = .next { s with replies := (s.caller, .float d) :: s.replies }
      ∧ (exponent = 255 → fraction = 0 → d = .infinity neg)
      ∧ (exponent = 255 → fraction ≠ 0 → d = .nan neg (BitVec.ofNat 23 fraction))
      ∧ (exponent = 0 → fraction = 0 → d = .zero neg)
      ∧ (exponent = 0 → fraction ≠ 0 → d = .finite neg fraction (-149))
      ∧ (exponent ≠ 255 → exponent ≠ 0 → d = .finite neg (8388608 + fraction) ((exponent : Int) - 150)))
    ∧ ∀ v : Word32, asF32 v = asF32 w → v = w

/-- The codec is stateless (R100): for a codec operation or a frame class there is one value, the same from every state,
which the executing host gets, and nothing else changes. That a frame class is executed is the model's own
(log entry 9). -/
def Obligations.CodecIsPureAndTouchesNoBlockState : Prop :=
  ∀ i : Instr,
    (i.isFrame = true ∨ (∃ p, i = .serialize p) ∨ (∃ f, i = .parse f) ∨ (∃ p, i = .variableWords p)
      ∨ (∃ w, i = .asU32 w) ∨ (∃ w, i = .asI32 w) ∨ (∃ w, i = .asF32 w)) →
    ∃ r : Reply, ∀ s : State, exec i s = .next { s with replies := (s.caller, r) :: s.replies }

/-- GETSIZE frames (R78): the bytes of each class and PARSE's answer; an OK frame parses only with 4 bytes of data, and
`size` stays 0. -/
def Obligations.GetsizeFrames : Prop :=
  ∀ (id : Byte) (result : Nibble) (addr : Word16) (data : List Byte) (s : State),
    let lo : Byte := BitVec.ofNat 8 (addr.toNat % 256)
    let hi : Byte := BitVec.ofNat 8 (addr.toNat / 256)
    let err : Byte := BitVec.ofNat 8 (16 * result.toNat + 1)
    exec (.getsizeReq id addr) s = .next { s with replies :=
      (s.caller, .frame [id, 0x01, lo, hi] (.ok ⟨id, 0x01, addr, 0, []⟩)) :: s.replies }
    ∧ exec (.getsizeOk id addr data) s = .next { s with replies :=
      (s.caller, .frame ([id, 0x11, lo, hi] ++ data)
        (if data.length = 4 then .ok ⟨id, 0x11, addr, 0, data⟩ else .error .trailingOrMissingBytes)) :: s.replies }
    ∧ (2 ≤ result.toNat → exec (.getsizeErr id result addr) s = .next { s with replies :=
      (s.caller, .frame [id, err, lo, hi] (.ok ⟨id, err, addr, 0, []⟩)) :: s.replies })

/-- GETBUF_B frames (R79): the bytes of each class and PARSE's answer; an OK frame parses only when `size` counts its data
bytes. -/
def Obligations.GetbufBFrames : Prop :=
  ∀ (id : Byte) (result : Nibble) (addr size : Word16) (data : List Byte) (s : State),
    let lo : Byte := BitVec.ofNat 8 (addr.toNat % 256)
    let hi : Byte := BitVec.ofNat 8 (addr.toNat / 256)
    let slo : Byte := BitVec.ofNat 8 (size.toNat % 256)
    let shi : Byte := BitVec.ofNat 8 (size.toNat / 256)
    let err : Byte := BitVec.ofNat 8 (16 * result.toNat + 2)
    exec (.getbufBReq id addr size) s = .next { s with replies :=
      (s.caller, .frame [id, 0x02, lo, hi, slo, shi] (.ok ⟨id, 0x02, addr, size, []⟩)) :: s.replies }
    ∧ exec (.getbufBOk id addr size data) s = .next { s with replies :=
      (s.caller, .frame ([id, 0x12, lo, hi, slo, shi] ++ data)
        (if data.length = size.toNat then .ok ⟨id, 0x12, addr, size, data⟩
         else .error .trailingOrMissingBytes)) :: s.replies }
    ∧ (2 ≤ result.toNat → exec (.getbufBErr id result addr size) s = .next { s with replies :=
      (s.caller, .frame [id, err, lo, hi, slo, shi] (.ok ⟨id, err, addr, size, []⟩)) :: s.replies })

/-- PUTBUF_B frames (R80): the bytes of each class and PARSE's answer; SERIALIZE appends a request's data whatever `size`
holds, and PARSE takes no data after `size`. -/
def Obligations.PutbufBFrames : Prop :=
  ∀ (id : Byte) (result : Nibble) (addr size : Word16) (data : List Byte) (s : State),
    let lo : Byte := BitVec.ofNat 8 (addr.toNat % 256)
    let hi : Byte := BitVec.ofNat 8 (addr.toNat / 256)
    let slo : Byte := BitVec.ofNat 8 (size.toNat % 256)
    let shi : Byte := BitVec.ofNat 8 (size.toNat / 256)
    let err : Byte := BitVec.ofNat 8 (16 * result.toNat + 4)
    exec (.putbufBReq id addr size data) s = .next { s with replies :=
      (s.caller, .frame ([id, 0x04, lo, hi, slo, shi] ++ data)
        (if data = [] then .ok ⟨id, 0x04, addr, size, []⟩ else .error .trailingOrMissingBytes)) :: s.replies }
    ∧ exec (.putbufBOk id addr size) s = .next { s with replies :=
      (s.caller, .frame [id, 0x14, lo, hi, slo, shi] (.ok ⟨id, 0x14, addr, size, []⟩)) :: s.replies }
    ∧ (2 ≤ result.toNat → exec (.putbufBErr id result addr size) s = .next { s with replies :=
      (s.caller, .frame [id, err, lo, hi, slo, shi] (.ok ⟨id, err, addr, size, []⟩)) :: s.replies })

/-- Frames of any other code (R81): SERIALIZE writes the 4-byte header, PARSE answers UnknownCommand, to them and to every
byte list of 4 or more bytes with such a code. -/
def Obligations.OtherCodeFrames : Prop :=
  (∀ (id : Byte) (result : Nibble) (low1 : BitVec 1) (low3 : BitVec 3) (addr : Word16) (s : State),
    let lo : Byte := BitVec.ofNat 8 (addr.toNat % 256)
    let hi : Byte := BitVec.ofNat 8 (addr.toNat / 256)
    let answer (code : Nat) : Host.Outcome State Fault Refusal := .next { s with replies :=
      (s.caller, .frame [id, BitVec.ofNat 8 (16 * result.toNat + code), lo, hi] (.error .unknownCommand))
        :: s.replies }
    exec (.getbuf id result addr) s = answer 3
    ∧ exec (.putbuf id result addr) s = answer 5
    ∧ exec (.undefCode0 id result addr) s = answer 0
    ∧ exec (.undefCode67 id result low1 addr) s = answer (6 + low1.toNat)
    ∧ exec (.undefCode8F id result low3 addr) s = answer (8 + low3.toNat))
  ∧ (∀ p : Packet, p.cmd.toNat % 16 ∉ [1, 2, 4] →
      serialize p = [p.id, p.cmd, BitVec.ofNat 8 (p.addr.toNat % 256), BitVec.ofNat 8 (p.addr.toNat / 256)])
  ∧ (∀ f : List Byte, 4 ≤ f.length → (f.getD 1 0).toNat % 16 ∉ [1, 2, 4] → parse f = .error .unknownCommand)

/-- Of the frames of the fourteen classes, PARSE accepts exactly the parsable ones: requests and errors of GETSIZE and
GETBUF_B, GETSIZE.OK with 4 bytes of data, GETBUF_B.OK with `size` bytes of data, acknowledgements and errors of PUTBUF_B,
and a PUTBUF_B request without data (R78 to R81, C6). -/
def Obligations.ParseAcceptsExactlyParsableFrames : Prop :=
  ∀ (i : Instr) (f : List Byte), i.WellFormed = true → encode i = .frame f →
    ((∃ p, parse f = .ok p) ↔ i.parsableFrame = true)

/-! ## The CRC framer and the sequencer -/

/-- FRAME, CHECK and STRIP (R132, R133): the trailer is the CRC of the bytes before it, low byte first; a frame of 0 or 1
bytes fails CHECK; a frame passes exactly when it is FRAME of what STRIP leaves; CHECK and STRIP undo FRAME. -/
def Obligations.CrcFramerAgrees : Prop :=
  (∀ x : List Byte, frameOf x = x ++
      [BitVec.ofNat 8 ((Config.crc16 x).toNat % 256), BitVec.ofNat 8 ((Config.crc16 x).toNat / 256)]
    ∧ (frameOf x).length = x.length + 2 ∧ checkOf (frameOf x) = true ∧ stripOf (frameOf x) = x)
  ∧ ∀ f : List Byte,
    (f.length < 2 → checkOf f = false)
    ∧ (2 ≤ f.length → (checkOf f = true ↔ f = frameOf (stripOf f)))

/-- OPEN (R134): a refused open ends the transaction with PORT_OPEN_ERROR and no counter changes; a granted one opens the
port and builds the frame. The hosts held in WAIT get the outcome at the end (log entries 6 and 7), and the record of the
request is the model's own (log entry 11). -/
def Obligations.OpenStep : Prop :=
  ∀ (s : State) (rest : List Event), s.seq = .opening →
    (s.env = .link (.openAnswer false) :: rest → ∃ t, step s = .next t ∧ t.status = 0x00000214
      ∧ t = { s with
          env := rest
          requests := .openPort s.cfg false :: s.requests
          portOpen := false
          rxb := []
          resultKind := .portOpenError
          resultData := []
          seq := .done
          held := []
          replies := s.held.map (fun h => (h, .result 0x00000214 [])) ++ s.replies })
    ∧ (s.env = .link (.openAnswer true) :: rest → step s = .next { s with
          env := rest
          requests := .openPort s.cfg true :: s.requests
          portOpen := true
          txf := s.req ++ [BitVec.ofNat 8 ((Config.crc16 s.req).toNat % 256),
            BitVec.ofNat 8 ((Config.crc16 s.req).toNat / 256)]
          seq := .writing })

/-- WRITE-FAIL and WRITE-OK (R135, R136): a failed write ends the transaction with WRITE_ERROR and counts nothing; a good
one counts the whole frame and one packet in one step and starts the receive phase. The hosts held in WAIT get the outcome at
the end (log entries 6 and 7), and the record of the request is the model's own (log entry 11). -/
def Obligations.WriteStep : Prop :=
  ∀ (s : State) (rest : List Event), s.seq = .writing →
    (s.env = .link (.writeAnswer false) :: rest → ∃ t, step s = .next t ∧ t.status = 0x00000314
      ∧ t = { s with
          env := rest
          requests := .write s.txf false :: s.requests
          portOpen := false
          rxb := []
          resultKind := .writeError
          resultData := []
          seq := .done
          held := []
          replies := s.held.map (fun h => (h, .result 0x00000314 [])) ++ s.replies })
    ∧ (s.env = .link (.writeAnswer true) :: rest → step s = .next { s with
          env := rest
          requests := .write s.txf true :: s.requests
          rxb := []
          cnt := { s.cnt with
            txBytes := (s.cnt.txBytes + s.txf.length) % 2 ^ s.par.wCnt
            txPackets := (s.cnt.txPackets + 1) % 2 ^ s.par.wCnt }
          seq := .receiving })

/-- RX-BYTE (R137): a byte is appended in arrival order; a byte beyond RX_CAP is refused. -/
def Obligations.RxByteStep : Prop :=
  ∀ (s : State) (b : Byte) (rest : List Event), s.seq = .receiving → s.env = .link (.byte b) :: rest →
    (s.rxb.length = s.par.rxCap → step s = .next { s with env := rest, refusal := some .rxOverflow })
    ∧ (s.rxb.length ≠ s.par.rxCap → step s = .next { s with env := rest, rxb := s.rxb ++ [b] })

/-- RX-GAP (R138, R139): with RXB not empty, the trailer (the last two bytes, low byte first) against the CRC of the bytes
before it decides. A match counts the whole frame and one packet and ends OK with the payload; a mismatch, or a frame of
one byte, counts one CRC error and ends CRC_ERROR. The hosts held in WAIT get the outcome (log entries 6 and 7). -/
def Obligations.RxGapStep : Prop :=
  ∀ (s : State) (rest : List Event), s.seq = .receiving → s.rxb ≠ [] → s.env = .link .gap :: rest →
    let n : Nat := s.rxb.length
    let payload := s.rxb.take (n - 2)
    let good := 2 ≤ n ∧
      (s.rxb.getD (n - 2) 0).toNat + 256 * (s.rxb.getD (n - 1) 0).toNat = (Config.crc16 payload).toNat
    (good → ∃ t, step s = .next t ∧ t.status = 0x00000114 ∧ t = { s with
          env := rest
          cnt := { s.cnt with
            rxBytes := (s.cnt.rxBytes + n) % 2 ^ s.par.wCnt
            rxPackets := (s.cnt.rxPackets + 1) % 2 ^ s.par.wCnt }
          portOpen := false
          rxb := []
          resultKind := .ok
          resultData := payload
          seq := .done
          held := []
          replies := s.held.map (fun h => (h, .result 0x00000114 payload)) ++ s.replies })
    ∧ (¬ good → ∃ t, step s = .next t ∧ t.status = 0x00000514 ∧ t = { s with
          env := rest
          cnt := { s.cnt with crcErrors := (s.cnt.crcErrors + 1) % 2 ^ s.par.wCnt }
          portOpen := false
          rxb := []
          resultKind := .crcError
          resultData := []
          seq := .done
          held := []
          replies := s.held.map (fun h => (h, .result 0x00000514 [])) ++ s.replies })

/-- RX-DEADLINE (R140): whatever RXB holds, the transaction ends with TIMEOUT, TIMEOUTS counts one, the partial frame is
discarded, the RX counters are unchanged, and the hosts held in WAIT get the outcome (log entries 6 and 7). -/
def Obligations.RxDeadlineStep : Prop :=
  ∀ (s : State) (rest : List Event), s.seq = .receiving → s.env = .link .deadline :: rest →
    ∃ t, step s = .next t ∧ t.status = 0x00000414 ∧ t = { s with
      env := rest
      cnt := { s.cnt with timeouts := (s.cnt.timeouts + 1) % 2 ^ s.par.wCnt }
      portOpen := false
      rxb := []
      resultKind := .timeout
      resultData := []
      seq := .done
      held := []
      replies := s.held.map (fun h => (h, .result 0x00000414 [])) ++ s.replies }

/-- Step selection (R141, R196): IDLE and DONE have no sequencer step; a draw that answers no request of the state, and a
gap with RXB empty, are not enabled. Such an event of the schedule changes nothing (log entry 5). -/
def Obligations.DrawsNotEnabledDoNothing : Prop :=
  ∀ (s : State) (d : LinkEvent) (rest : List Event), s.env = .link d :: rest →
    (s.seq = .idle ∨ s.seq = .done
      ∨ (s.seq = .opening ∧ ∀ ok, d ≠ .openAnswer ok)
      ∨ (s.seq = .writing ∧ ∀ ok, d ≠ .writeAnswer ok)
      ∨ (s.seq = .receiving ∧ ((∃ ok, d = .openAnswer ok ∨ d = .writeAnswer ok) ∨ (d = .gap ∧ s.rxb = [])))) →
    step s = .next { s with env := rest }

/-- A busy sequencer is never stuck (R141): some draw of the link moves SEQ. -/
def Obligations.BusySequencerHasStep : Prop :=
  ∀ s : State, (s.seq = .opening ∨ s.seq = .writing ∨ s.seq = .receiving) →
    ∃ d, ∀ rest, ∃ t, step { s with env := .link d :: rest } = .next t ∧ t.seq ≠ s.seq

/-- The end of a transaction is precise (R183, R184): a step that makes SEQ DONE closes the port, empties RXB, keeps REQ,
TXF and CFG, and stores one outcome, with data only for OK. -/
def Obligations.FinishIsPrecise : Prop :=
  ∀ s t : State, step s = .next t → s.seq ≠ .done → t.seq = .done →
    t.portOpen = false ∧ t.rxb = [] ∧ t.req = s.req ∧ t.txf = s.txf ∧ t.cfg = s.cfg
    ∧ t.resultKind ≠ .none ∧ (t.resultKind ≠ .ok → t.resultData = [])

/-- A whole successful transaction (R134, R136, R137, R139, R165): from OPEN, when the link grants the open and the write
and delivers FRAME of a payload that fits RX_CAP and then the gap, the transaction ends OK with exactly that payload, the
frame written is the request with its CRC, the four counters grow by the two frame lengths and by one each, and the hosts held in
WAIT get the outcome (log entries 6 and 7). -/
def Obligations.SuccessfulTransactionDeliversPayload : Prop :=
  ∀ (s : State) (payload : List Byte) (rest : List Event), s.seq = .opening →
    payload.length + 2 ≤ s.par.rxCap →
    s.env = .link (.openAnswer true) :: .link (.writeAnswer true)
      :: ((frameOf payload).map (fun b => Event.link (.byte b)) ++ .link .gap :: rest) →
    Host.Core.run core (payload.length + 5) s = .next { s with
      env := rest
      txf := frameOf s.req
      rxb := []
      portOpen := false
      resultKind := .ok
      resultData := payload
      seq := .done
      held := []
      replies := s.held.map (fun h => (h, .result 0x00000114 payload)) ++ s.replies
      requests := .write (frameOf s.req) true :: .openPort s.cfg true :: s.requests
      cnt := { s.cnt with
        txBytes := (s.cnt.txBytes + (s.req.length + 2)) % 2 ^ s.par.wCnt
        txPackets := (s.cnt.txPackets + 1) % 2 ^ s.par.wCnt
        rxBytes := (s.cnt.rxBytes + (payload.length + 2)) % 2 ^ s.par.wCnt
        rxPackets := (s.cnt.rxPackets + 1) % 2 ^ s.par.wCnt } }

/-- Every transaction ends (R144): from OPEN, with any answers to open and write, any bytes, and then the deadline, SEQ is
DONE after at most 3 steps and one for each byte, with the outcome that the first failure fixes (R187), the port
closed and no host held. More bytes than RX_CAP are refused on the way (R137): that the run goes on after a refusal is the
model's choice (log entry 8), where R33 has REFUSED = 0 as a premise. -/
def Obligations.TransactionEndsWithinItsSteps : Prop :=
  ∀ (s : State) (opened written : Bool) (bytes : List Byte) (rest : List Event), s.seq = .opening →
    s.env = .link (.openAnswer opened) :: .link (.writeAnswer written)
      :: (bytes.map (fun b => Event.link (.byte b)) ++ .link .deadline :: rest) →
    ∃ k t, k ≤ 3 + bytes.length ∧ Host.Core.run core k s = .next t ∧ t.seq = .done
      ∧ t.portOpen = false ∧ t.rxb = [] ∧ t.held = [] ∧ t.resultData = []
      ∧ t.resultKind = (if opened = false then .portOpenError else if written = false then .writeError
          else .timeout)

/-! ## Runs -/

/-- Liveness (R221, R222): in a weakly fair run, whatever the hosts do, a busy sequencer comes to an end: it stays busy up to
one event, which is a reset, or a failed open, a failed write, the quiet gap or the deadline, and SEQ is then IDLE or DONE
and no host is held in WAIT. So a run that stays busy forever is not weakly fair. More bytes than RX_CAP are refused on
the way (R137), and that the run goes on is the model's choice (log entry 8). -/
def Obligations.WeaklyFairRunsEndTransactions : Prop :=
  ∀ (sched : Nat → Event) (r : Nat → State) (n : Nat), IsRun sched r → WeaklyFair sched r → (r n).busy = true →
    ∃ m, n ≤ m ∧ (∀ k, n ≤ k → k ≤ m → (r k).busy = true) ∧ (r (m + 1)).held = []
      ∧ ((sched m = .reset ∧ (r (m + 1)).seq = .idle)
        ∨ (endsTransaction (sched m) = true ∧ (r (m + 1)).seq = .done))

/-- The bound of R144, whatever hosts do between the steps: from OPEN up to the end of the transaction the sequencer makes at
most 3 steps and one for each byte delivered in RECV, the step that ends it among them. -/
def Obligations.SequencerStepsOfTransactionAreBounded : Prop :=
  ∀ (sched : Nat → Event) (r : Nat → State) (n k : Nat), IsRun sched r → (r n).seq = .opening →
    (∀ j, j < k → (r (n + j)).busy = true) →
    (List.range k).countP (fun j => (r (n + j)).sequencerMoves (sched (n + j)))
      ≤ 3 + (List.range k).countP (fun j => (r (n + j)).receivesByte (sched (n + j)))

/-- The end of a run (R222): no host held in WAIT, SEQ IDLE or DONE, and REFUSED 0; what it has observed is then the values
returned, oldest first, with the final RESULT_KIND, RESULT_DATA and CNT. A run in which REFUSED is 1 has no end: no
state after it is one. -/
def Obligations.RunEndsFreeUnheldAndUnrefused : Prop :=
  ∀ s : State,
    (s.atEnd = true ↔ s.held = [] ∧ (s.seq = .idle ∨ s.seq = .done) ∧ s.refusedMark = false)
    ∧ (s.atEnd = true → s.observed? = some (s.replies.reverse, s.resultKind, s.resultData, s.cnt))
    ∧ (s.refusedMark = true → ∀ (k : Nat) (t : State), Host.Core.run core k s = .next t →
        t.atEnd = false ∧ t.observed? = none)
end

