-- ==== Sys2Proof/Laws/Codec.lean ====
section
/-! SUPPORT. The helpers of the encodings: fields of the command byte, little-endian bytes, headers, and the CRC framer's
lengths. -/

namespace Sys2Proof

/-! ## The command byte -/

@[simp] theorem codeOf_cmdByte (result code : Nibble) : codeOf (cmdByte result code) = code := by
  revert result code; decide

@[simp] theorem resultOf_cmdByte (result code : Nibble) : resultOf (cmdByte result code) = result := by
  revert result code; decide

@[simp] theorem cmdByte_fields (cmd : Byte) : cmdByte (resultOf cmd) (codeOf cmd) = cmd := by
  revert cmd; decide

theorem codeOf_toNat (cmd : Byte) : (codeOf cmd).toNat = cmd.toNat % 16 := by
  simp [codeOf, BitVec.extractLsb'_toNat]

theorem resultOf_toNat (cmd : Byte) : (resultOf cmd).toNat = cmd.toNat / 16 := by
  have := cmd.isLt
  simp [resultOf, BitVec.extractLsb'_toNat, Nat.shiftRight_eq_div_pow]
  omega

/-! ## Little-endian bytes -/

@[simp] theorem le16_length (v : Word16) : (le16 v).length = 2 := rfl

theorem le16_low_toNat (v : Word16) : (v.extractLsb' 0 8).toNat = v.toNat % 256 := by
  simp [BitVec.extractLsb'_toNat]

theorem le16_high_toNat (v : Word16) : (v.extractLsb' 8 8).toNat = v.toNat / 256 := by
  have := v.isLt
  simp only [BitVec.extractLsb'_toNat, Nat.shiftRight_eq_div_pow]
  omega

/-- `le16` in the arithmetic of R10 to R12. -/
theorem le16_eq_bytes (v : Word16) : le16 v = [BitVec.ofNat 8 (v.toNat % 256), BitVec.ofNat 8 (v.toNat / 256)] := by
  have := v.isLt
  simp only [le16, List.cons.injEq, and_true]
  constructor <;> apply BitVec.eq_of_toNat_eq
  · rw [le16_low_toNat]; simp
  · rw [le16_high_toNat]; simp; omega

theorem rd16_toNat (B : List Byte) (i : Nat) :
    (rd16 B i).toNat = (B.getD i 0).toNat + 256 * (B.getD (i + 1) 0).toNat := by
  have h1 := (B.getD i 0).isLt
  have h2 := (B.getD (i + 1) 0).isLt
  simp only [rd16, BitVec.toNat_ofNat]
  omega

theorem rd32_toNat (B : List Byte) (i : Nat) :
    (rd32 B i).toNat = (B.getD i 0).toNat + 2 ^ 8 * (B.getD (i + 1) 0).toNat
      + 2 ^ 16 * (B.getD (i + 2) 0).toNat + 2 ^ 24 * (B.getD (i + 3) 0).toNat := by
  have h1 := (B.getD i 0).isLt
  have h2 := (B.getD (i + 1) 0).isLt
  have h3 := (B.getD (i + 2) 0).isLt
  have h4 := (B.getD (i + 3) 0).isLt
  simp only [rd32, BitVec.toNat_ofNat]
  omega

/-- Reading the two bytes of `le16 v` gives `v` (R12), wherever they stand in a byte list. -/
theorem rd16_of_le16 (B : List Byte) (i : Nat) (v : Word16)
    (h0 : B.getD i 0 = v.extractLsb' 0 8) (h1 : B.getD (i + 1) 0 = v.extractLsb' 8 8) : rd16 B i = v := by
  apply BitVec.eq_of_toNat_eq
  rw [rd16_toNat, h0, h1, le16_low_toNat, le16_high_toNat]
  omega

/-- The other way round: `le16` of what `rd16` read is the two bytes (R12). -/
theorem le16_rd16 (B : List Byte) (i : Nat) : le16 (rd16 B i) = [B.getD i 0, B.getD (i + 1) 0] := by
  have h1 := (B.getD i 0).isLt
  have h2 := (B.getD (i + 1) 0).isLt
  simp only [le16, List.cons.injEq, and_true]
  constructor <;> apply BitVec.eq_of_toNat_eq
  · rw [le16_low_toNat, rd16_toNat]; omega
  · rw [le16_high_toNat, rd16_toNat]; omega

@[simp] theorem header_length (id cmd : Byte) (addr : Word16) : (header id cmd addr).length = 4 := rfl

/-! ## The parts of a packet (R77, R101) -/

namespace Machine

theorem hasSize_iff (cmd : Byte) : hasSize (codeOf cmd) = true ↔ cmd.toNat % 16 = 2 ∨ cmd.toNat % 16 = 4 := by
  revert cmd; decide

theorem hasData_iff (cmd : Byte) : hasData (codeOf cmd) (resultOf cmd) = true ↔
    (cmd.toNat % 16 = 4 ∧ cmd.toNat / 16 = 0) ∨ (cmd.toNat % 16 = 2 ∧ cmd.toNat / 16 = 1)
      ∨ (cmd.toNat % 16 = 1 ∧ cmd.toNat / 16 = 1) := by
  revert cmd; decide

end Machine

/-! ## The CRC framer (R132, R133) -/

namespace Machine

@[simp] theorem frameOf_length (req : List Byte) : (frameOf req).length = req.length + 2 := by simp [frameOf]

theorem stripOf_length (f : List Byte) : (stripOf f).length = f.length - 2 := by simp [stripOf]

theorem wrapAdd_lt (w v n : Nat) : wrapAdd w v n < 2 ^ w := Nat.mod_lt _ (by positivity)

end Machine

end Sys2Proof
end

