-- ==== Sys2Proof/Laws/Encoding.lean ====
section
/-! SUPPORT. The decoder on a header written out: which class a command byte has, and where the fields of a frame stand. -/

namespace Sys2Proof

/-! ## Where the fields stand (R77) -/

theorem header_append (id cmd : Byte) (addr : Word16) (rest : List Byte) :
    header id cmd addr ++ rest = id :: cmd :: addr.extractLsb' 0 8 :: addr.extractLsb' 8 8 :: rest := rfl

theorem rd16_addr (id cmd : Byte) (addr : Word16) (rest : List Byte) :
    rd16 (id :: cmd :: addr.extractLsb' 0 8 :: addr.extractLsb' 8 8 :: rest) 2 = addr :=
  rd16_of_le16 _ _ _ rfl rfl

theorem rd16_size (id cmd a0 a1 : Byte) (size : Word16) (rest : List Byte) :
    rd16 (id :: cmd :: a0 :: a1 :: size.extractLsb' 0 8 :: size.extractLsb' 8 8 :: rest) 4 = size :=
  rd16_of_le16 _ _ _ rfl rfl

/-! ## The class of a command byte (R75, R76, R87) -/

/-- The class as a function of the two nibbles: what the rows of the table say together. -/
theorem frameClass_of_nibbles : ∀ cmd : Byte, frameClass? cmd = some (
    let code := codeOf cmd
    let result := resultOf cmd
    if code = 1 then (if result = 0 then .getsizeReq else if result = 1 then .getsizeOk else .getsizeErr)
    else if code = 2 then (if result = 0 then .getbufBReq else if result = 1 then .getbufBOk else .getbufBErr)
    else if code = 4 then (if result = 0 then .putbufBReq else if result = 1 then .putbufBOk else .putbufBErr)
    else if code = 3 then .getbuf
    else if code = 5 then .putbuf
    else if code = 0 then .undefCode0
    else if code = 6 ∨ code = 7 then .undefCode67
    else .undefCode8F) := by decide

theorem frameClass_getsizeErr : ∀ r : Nibble, 2 ≤ r.toNat → frameClass? (cmdByte r 1) = some .getsizeErr := by decide
theorem frameClass_getbufBErr : ∀ r : Nibble, 2 ≤ r.toNat → frameClass? (cmdByte r 2) = some .getbufBErr := by decide
theorem frameClass_putbufBErr : ∀ r : Nibble, 2 ≤ r.toNat → frameClass? (cmdByte r 4) = some .putbufBErr := by decide
theorem frameClass_getbuf : ∀ r : Nibble, frameClass? (cmdByte r 3) = some .getbuf := by decide
theorem frameClass_putbuf : ∀ r : Nibble, frameClass? (cmdByte r 5) = some .putbuf := by decide
theorem frameClass_undefCode0 : ∀ r : Nibble, frameClass? (cmdByte r 0) = some .undefCode0 := by decide
theorem frameClass_undefCode67 : ∀ (r : Nibble) (low : BitVec 1),
    frameClass? (cmdByte r (0b011#3 ++ low : BitVec 4)) = some .undefCode67 := by decide
theorem frameClass_undefCode8F : ∀ (r : Nibble) (low : BitVec 3),
    frameClass? (cmdByte r (0b1#1 ++ low : BitVec 4)) = some .undefCode8F := by decide

theorem low_undefCode67 : ∀ (r : Nibble) (low : BitVec 1),
    (cmdByte r (0b011#3 ++ low : BitVec 4)).extractLsb' 0 1 = low := by decide
theorem low_undefCode8F : ∀ (r : Nibble) (low : BitVec 3),
    (cmdByte r (0b1#1 ++ low : BitVec 4)).extractLsb' 0 3 = low := by decide

theorem ifLength_ok {fits : Bool} {i j : Instr} : ifLength fits i = .ok j ↔ fits = true ∧ i = j := by
  cases fits <;> simp [ifLength]

theorem ifLength_reject {fits : Bool} {i : Instr} {r : DecodeReject} :
    ifLength fits i = .reject r ↔ fits = false ∧ r = .badFrameLength := by
  cases fits <;> simp [ifLength, eq_comm]

/-- What a class says of the command byte (R78 to R81). -/
def FrameClass.admits (cls : FrameClass) (cmd : Byte) : Bool :=
  match cls with
  | .getsizeReq => cmd == 0x01
  | .getsizeOk => cmd == 0x11
  | .getsizeErr => cmd == cmdByte (resultOf cmd) 1 && 2 ≤ (resultOf cmd).toNat
  | .getbufBReq => cmd == 0x02
  | .getbufBOk => cmd == 0x12
  | .getbufBErr => cmd == cmdByte (resultOf cmd) 2 && 2 ≤ (resultOf cmd).toNat
  | .putbufBReq => cmd == 0x04
  | .putbufBOk => cmd == 0x14
  | .putbufBErr => cmd == cmdByte (resultOf cmd) 4 && 2 ≤ (resultOf cmd).toNat
  | .getbuf => cmd == cmdByte (resultOf cmd) 3
  | .putbuf => cmd == cmdByte (resultOf cmd) 5
  | .undefCode0 => cmd == cmdByte (resultOf cmd) 0
  | .undefCode67 => cmd == cmdByte (resultOf cmd) (0b011#3 ++ cmd.extractLsb' 0 1 : BitVec 4)
  | .undefCode8F => cmd == cmdByte (resultOf cmd) (0b1#1 ++ cmd.extractLsb' 0 3 : BitVec 4)

theorem frameClass_admits {cmd : Byte} {cls : FrameClass} (h : frameClass? cmd = some cls) :
    cls.admits cmd = true := by
  have key : ∀ c : Byte, ((frameClass? c).all fun k => k.admits c) = true := by decide
  simpa [h] using key cmd

/-- Every command byte has a class. -/
theorem exists_frameClass (cmd : Byte) : ∃ cls, frameClass? cmd = some cls :=
  ⟨_, frameClass_of_nibbles cmd⟩

/-- A frame with a header is read by the layout of its class. -/
theorem decode_frame_of_class {cmd : Byte} {cls : FrameClass} (hc : frameClass? cmd = some cls) (id a0 a1 : Byte)
    (rest : List Byte) :
    decode (.frame (id :: cmd :: a0 :: a1 :: rest)) = frameInstr cls (id :: cmd :: a0 :: a1 :: rest) := by
  simp [decode, decodeFrame, hc]

/-- A frame of fewer than 4 bytes has no header. -/
theorem decode_frame_short {f : List Byte} (h : f.length < 4) : decode (.frame f) = .reject .frameTooShort := by
  simp [decode, decodeFrame, h]

/-! ## The host opcode map (R71) -/

/-- The rows of the map tried in order, as one chain of cases. -/
theorem decodeHop_chain (c : HostCall) : decodeHop c =
    if c.op = 0x01#8 then .ok (.txn c.port c.baud c.tmo c.bytes)
    else if c.op = 0x02#8 then .ok .poll
    else if c.op = 0x03#8 then .ok .wait
    else if c.op &&& 0xF8#8 = 0x10#8 then .ok (.stat (c.op.extractLsb' 0 3))
    else if c.op = 0x20#8 then .ok .statReset
    else if c.op = 0x40#8 then .ok (.serialize c.packet)
    else if c.op = 0x41#8 then .ok (.parse c.bytes)
    else if c.op = 0x42#8 then .ok (.variableWords c.packet)
    else if c.op = 0x43#8 then .ok (.asU32 c.word)
    else if c.op = 0x44#8 then .ok (.asI32 c.word)
    else if c.op = 0x45#8 then .ok (.asF32 c.word)
    else .reject .unknownHostOp := by
  have all : ∀ op : Byte, op &&& 0xFF = op := by decide
  simp only [decodeHop, hopRows, tryRows, HopRow.hits, all, beq_iff_eq]
  rfl

/-- The STAT opcodes are 0x10 to 0x17, with the index in the low bits. -/
theorem stat_opcode : ∀ op : Byte, op &&& 0xF8#8 = 0x10#8 ↔ (0b00010#5 ++ op.extractLsb' 0 3 : BitVec 8) = op := by
  decide

end Sys2Proof
end

