-- ==== Sys2Proof/Laws/PerInstr.lean ====
section
/-! SUPPORT. Statements made per instruction: the code byte the encoder writes is one that the instruction's own row of
spec/opcode_table.json matches, the mask and pattern written here a second time from the table. -/

namespace Sys2Proof.Laws

/-- The byte a row is matched on (R87): the opcode of a host operation, the command byte (offset 1) of a frame. -/
def codeByte (c : Code) : Byte :=
  match c with
  | .hop k => k.op
  | .frame f => f.getD 1 0

/-- Mask and pattern of the instruction's row of spec/opcode_table.json. -/
def rowBits (i : Instr) : Byte × Byte :=
  match i with
  | .txn _ _ _ _ => (0xFF, 0x01)
  | .poll => (0xFF, 0x02)
  | .wait => (0xFF, 0x03)
  | .stat _ => (0xF8, 0x10)
  | .statReset => (0xFF, 0x20)
  | .serialize _ => (0xFF, 0x40)
  | .parse _ => (0xFF, 0x41)
  | .variableWords _ => (0xFF, 0x42)
  | .asU32 _ => (0xFF, 0x43)
  | .asI32 _ => (0xFF, 0x44)
  | .asF32 _ => (0xFF, 0x45)
  | .getsizeReq _ _ => (0xFF, 0x01)
  | .getsizeOk _ _ _ => (0xFF, 0x11)
  | .getsizeErr _ _ _ => (0x0F, 0x01)
  | .getbufBReq _ _ _ => (0xFF, 0x02)
  | .getbufBOk _ _ _ _ => (0xFF, 0x12)
  | .getbufBErr _ _ _ _ => (0x0F, 0x02)
  | .putbufBReq _ _ _ _ => (0xFF, 0x04)
  | .putbufBOk _ _ _ => (0xFF, 0x14)
  | .putbufBErr _ _ _ _ => (0x0F, 0x04)
  | .getbuf _ _ _ => (0x0F, 0x03)
  | .putbuf _ _ _ => (0x0F, 0x05)
  | .undefCode0 _ _ _ => (0x0F, 0x00)
  | .undefCode67 _ _ _ _ => (0x0E, 0x06)
  | .undefCode8F _ _ _ _ => (0x08, 0x08)

/-- Of an `.ERR` row the result code is one of 0x2 to 0xF (R87). -/
def isErrorClass (i : Instr) : Bool :=
  match i with
  | .txn _ _ _ _ => false
  | .poll => false
  | .wait => false
  | .stat _ => false
  | .statReset => false
  | .serialize _ => false
  | .parse _ => false
  | .variableWords _ => false
  | .asU32 _ => false
  | .asI32 _ => false
  | .asF32 _ => false
  | .getsizeReq _ _ => false
  | .getsizeOk _ _ _ => false
  | .getsizeErr _ _ _ => true
  | .getbufBReq _ _ _ => false
  | .getbufBOk _ _ _ _ => false
  | .getbufBErr _ _ _ _ => true
  | .putbufBReq _ _ _ _ => false
  | .putbufBOk _ _ _ => false
  | .putbufBErr _ _ _ _ => true
  | .getbuf _ _ _ => false
  | .putbuf _ _ _ => false
  | .undefCode0 _ _ _ => false
  | .undefCode67 _ _ _ _ => false
  | .undefCode8F _ _ _ _ => false

/-- The row of an instruction matches its code. -/
def OpcodeRow.Statement (i : Instr) : Prop :=
  i.WellFormed = true →
    codeByte (encode i) &&& (rowBits i).1 = (rowBits i).2
    ∧ (isErrorClass i = true → 0x20 ≤ (codeByte (encode i)).toNat)

theorem fixedByte_row : ∀ cmd : Byte, cmd &&& 0xFF = cmd := by decide

theorem statByte_row : ∀ idx : BitVec 3, (0b00010#5 ++ idx : BitVec 8) &&& 0xF8 = 0x10 := by decide

theorem cmdByte_row : ∀ result code : Nibble, cmdByte result code &&& 0x0F = 0x0#4 ++ code := by decide

theorem cmdByte_error : ∀ result code : Nibble, 2 ≤ result.toNat → 0x20 ≤ (cmdByte result code).toNat := by decide

theorem cmdByte_row67 : ∀ (result : Nibble) (low : BitVec 1),
    cmdByte result (0b011#3 ++ low : BitVec 4) &&& 0x0E = 0x06 := by decide

theorem cmdByte_row8F : ∀ (result : Nibble) (low : BitVec 3),
    cmdByte result (0b1#1 ++ low : BitVec 4) &&& 0x08 = 0x08 := by decide

theorem OpcodeRow.txn (port : PortId) (baud tmo : Word32) (req : List Byte) :
    OpcodeRow.Statement (.txn port baud tmo req) := fun _ => ⟨fixedByte_row 0x01, nofun⟩

theorem OpcodeRow.poll :
    OpcodeRow.Statement (.poll) := fun _ => ⟨fixedByte_row 0x02, nofun⟩

theorem OpcodeRow.wait :
    OpcodeRow.Statement (.wait) := fun _ => ⟨fixedByte_row 0x03, nofun⟩

theorem OpcodeRow.stat (idx : BitVec 3) :
    OpcodeRow.Statement (.stat idx) := fun _ => ⟨statByte_row idx, nofun⟩

theorem OpcodeRow.statReset :
    OpcodeRow.Statement (.statReset) := fun _ => ⟨fixedByte_row 0x20, nofun⟩

theorem OpcodeRow.serialize (p : Packet) :
    OpcodeRow.Statement (.serialize p) := fun _ => ⟨fixedByte_row 0x40, nofun⟩

theorem OpcodeRow.parse (f : List Byte) :
    OpcodeRow.Statement (.parse f) := fun _ => ⟨fixedByte_row 0x41, nofun⟩

theorem OpcodeRow.variableWords (p : Packet) :
    OpcodeRow.Statement (.variableWords p) := fun _ => ⟨fixedByte_row 0x42, nofun⟩

theorem OpcodeRow.asU32 (w : Word32) :
    OpcodeRow.Statement (.asU32 w) := fun _ => ⟨fixedByte_row 0x43, nofun⟩

theorem OpcodeRow.asI32 (w : Word32) :
    OpcodeRow.Statement (.asI32 w) := fun _ => ⟨fixedByte_row 0x44, nofun⟩

theorem OpcodeRow.asF32 (w : Word32) :
    OpcodeRow.Statement (.asF32 w) := fun _ => ⟨fixedByte_row 0x45, nofun⟩

theorem OpcodeRow.getsizeReq (id : Byte) (addr : Word16) :
    OpcodeRow.Statement (.getsizeReq id addr) := fun _ => ⟨fixedByte_row 0x01, nofun⟩

theorem OpcodeRow.getsizeOk (id : Byte) (addr : Word16) (data : List Byte) :
    OpcodeRow.Statement (.getsizeOk id addr data) := fun _ => ⟨fixedByte_row 0x11, nofun⟩

theorem OpcodeRow.getsizeErr (id : Byte) (result : Nibble) (addr : Word16) :
    OpcodeRow.Statement (.getsizeErr id result addr) := fun h =>
  ⟨cmdByte_row result 0x1, fun _ => cmdByte_error result 0x1 (by simpa [Instr.WellFormed] using h)⟩

theorem OpcodeRow.getbufBReq (id : Byte) (addr size : Word16) :
    OpcodeRow.Statement (.getbufBReq id addr size) := fun _ => ⟨fixedByte_row 0x02, nofun⟩

theorem OpcodeRow.getbufBOk (id : Byte) (addr size : Word16) (data : List Byte) :
    OpcodeRow.Statement (.getbufBOk id addr size data) := fun _ => ⟨fixedByte_row 0x12, nofun⟩

theorem OpcodeRow.getbufBErr (id : Byte) (result : Nibble) (addr size : Word16) :
    OpcodeRow.Statement (.getbufBErr id result addr size) := fun h =>
  ⟨cmdByte_row result 0x2, fun _ => cmdByte_error result 0x2 (by simpa [Instr.WellFormed] using h)⟩

theorem OpcodeRow.putbufBReq (id : Byte) (addr size : Word16) (data : List Byte) :
    OpcodeRow.Statement (.putbufBReq id addr size data) := fun _ => ⟨fixedByte_row 0x04, nofun⟩

theorem OpcodeRow.putbufBOk (id : Byte) (addr size : Word16) :
    OpcodeRow.Statement (.putbufBOk id addr size) := fun _ => ⟨fixedByte_row 0x14, nofun⟩

theorem OpcodeRow.putbufBErr (id : Byte) (result : Nibble) (addr size : Word16) :
    OpcodeRow.Statement (.putbufBErr id result addr size) := fun h =>
  ⟨cmdByte_row result 0x4, fun _ => cmdByte_error result 0x4 (by simpa [Instr.WellFormed] using h)⟩

theorem OpcodeRow.getbuf (id : Byte) (result : Nibble) (addr : Word16) :
    OpcodeRow.Statement (.getbuf id result addr) := fun _ => ⟨cmdByte_row result 0x3, nofun⟩

theorem OpcodeRow.putbuf (id : Byte) (result : Nibble) (addr : Word16) :
    OpcodeRow.Statement (.putbuf id result addr) := fun _ => ⟨cmdByte_row result 0x5, nofun⟩

theorem OpcodeRow.undefCode0 (id : Byte) (result : Nibble) (addr : Word16) :
    OpcodeRow.Statement (.undefCode0 id result addr) := fun _ => ⟨cmdByte_row result 0x0, nofun⟩

theorem OpcodeRow.undefCode67 (id : Byte) (result : Nibble) (low : BitVec 1) (addr : Word16) :
    OpcodeRow.Statement (.undefCode67 id result low addr) := fun _ => ⟨cmdByte_row67 result low, nofun⟩

theorem OpcodeRow.undefCode8F (id : Byte) (result : Nibble) (low : BitVec 3) (addr : Word16) :
    OpcodeRow.Statement (.undefCode8F id result low addr) := fun _ => ⟨cmdByte_row8F result low, nofun⟩

end Sys2Proof.Laws
end

