-- ==== Sys2Proof/Laws/State.lean ====
section
/-! SUPPORT. Beside State: for each operation that rewrites the state and each field, what the field is afterwards, all by
rfl, so that no proof unfolds a record update. -/

namespace Sys2Proof.Machine

variable (s : State)

/-- Busy, case by case (R23). -/
theorem State.busy_eq_true : s.busy = true ↔ s.seq = .opening ∨ s.seq = .writing ∨ s.seq = .receiving := by
  cases h : s.seq <;> simp [State.busy, SeqState.busy, h]

/-- Free, case by case (R23). -/
theorem State.busy_eq_false : s.busy = false ↔ s.seq = .idle ∨ s.seq = .done := by
  cases h : s.seq <;> simp [State.busy, SeqState.busy, h]

/-! ## STATUS at the end of a transaction (R31) -/

@[simp] theorem statusWord_done_portOpenError : statusWord .done .portOpenError = 0x00000214 := by decide
@[simp] theorem statusWord_done_writeError : statusWord .done .writeError = 0x00000314 := by decide
@[simp] theorem statusWord_done_crcError : statusWord .done .crcError = 0x00000514 := by decide
@[simp] theorem statusWord_done_ok : statusWord .done .ok = 0x00000114 := by decide
@[simp] theorem statusWord_done_timeout : statusWord .done .timeout = 0x00000414 := by decide

/-! ## replyTo -/

@[simp] theorem State.replyTo_seq (h : Nat) (r : Reply) : (s.replyTo h r).seq = s.seq := rfl
@[simp] theorem State.replyTo_cfg (h : Nat) (r : Reply) : (s.replyTo h r).cfg = s.cfg := rfl
@[simp] theorem State.replyTo_req (h : Nat) (r : Reply) : (s.replyTo h r).req = s.req := rfl
@[simp] theorem State.replyTo_txf (h : Nat) (r : Reply) : (s.replyTo h r).txf = s.txf := rfl
@[simp] theorem State.replyTo_rxb (h : Nat) (r : Reply) : (s.replyTo h r).rxb = s.rxb := rfl
@[simp] theorem State.replyTo_portOpen (h : Nat) (r : Reply) : (s.replyTo h r).portOpen = s.portOpen := rfl
@[simp] theorem State.replyTo_resultKind (h : Nat) (r : Reply) : (s.replyTo h r).resultKind = s.resultKind := rfl
@[simp] theorem State.replyTo_resultData (h : Nat) (r : Reply) : (s.replyTo h r).resultData = s.resultData := rfl
@[simp] theorem State.replyTo_cnt (h : Nat) (r : Reply) : (s.replyTo h r).cnt = s.cnt := rfl
@[simp] theorem State.replyTo_refusal (h : Nat) (r : Reply) : (s.replyTo h r).refusal = s.refusal := rfl
@[simp] theorem State.replyTo_held (h : Nat) (r : Reply) : (s.replyTo h r).held = s.held := rfl
@[simp] theorem State.replyTo_par (h : Nat) (r : Reply) : (s.replyTo h r).par = s.par := rfl
@[simp] theorem State.replyTo_caller (h : Nat) (r : Reply) : (s.replyTo h r).caller = s.caller := rfl
@[simp] theorem State.replyTo_replies (h : Nat) (r : Reply) : (s.replyTo h r).replies = (h, r) :: s.replies := rfl
@[simp] theorem State.replyTo_requests (h : Nat) (r : Reply) : (s.replyTo h r).requests = s.requests := rfl
@[simp] theorem State.replyTo_env (h : Nat) (r : Reply) : (s.replyTo h r).env = s.env := rfl
@[simp] theorem State.replyTo_tick (h : Nat) (r : Reply) : (s.replyTo h r).tick = s.tick := rfl

/-! ## reply -/

@[simp] theorem State.reply_seq (r : Reply) : (s.reply r).seq = s.seq := rfl
@[simp] theorem State.reply_cfg (r : Reply) : (s.reply r).cfg = s.cfg := rfl
@[simp] theorem State.reply_req (r : Reply) : (s.reply r).req = s.req := rfl
@[simp] theorem State.reply_txf (r : Reply) : (s.reply r).txf = s.txf := rfl
@[simp] theorem State.reply_rxb (r : Reply) : (s.reply r).rxb = s.rxb := rfl
@[simp] theorem State.reply_portOpen (r : Reply) : (s.reply r).portOpen = s.portOpen := rfl
@[simp] theorem State.reply_resultKind (r : Reply) : (s.reply r).resultKind = s.resultKind := rfl
@[simp] theorem State.reply_resultData (r : Reply) : (s.reply r).resultData = s.resultData := rfl
@[simp] theorem State.reply_cnt (r : Reply) : (s.reply r).cnt = s.cnt := rfl
@[simp] theorem State.reply_refusal (r : Reply) : (s.reply r).refusal = s.refusal := rfl
@[simp] theorem State.reply_held (r : Reply) : (s.reply r).held = s.held := rfl
@[simp] theorem State.reply_par (r : Reply) : (s.reply r).par = s.par := rfl
@[simp] theorem State.reply_caller (r : Reply) : (s.reply r).caller = s.caller := rfl
@[simp] theorem State.reply_replies (r : Reply) : (s.reply r).replies = (s.caller, r) :: s.replies := rfl
@[simp] theorem State.reply_requests (r : Reply) : (s.reply r).requests = s.requests := rfl
@[simp] theorem State.reply_env (r : Reply) : (s.reply r).env = s.env := rfl
@[simp] theorem State.reply_tick (r : Reply) : (s.reply r).tick = s.tick := rfl

/-! ## refuse -/

@[simp] theorem State.refuse_seq (why : RefuseReason) : (s.refuse why).seq = s.seq := rfl
@[simp] theorem State.refuse_cfg (why : RefuseReason) : (s.refuse why).cfg = s.cfg := rfl
@[simp] theorem State.refuse_req (why : RefuseReason) : (s.refuse why).req = s.req := rfl
@[simp] theorem State.refuse_txf (why : RefuseReason) : (s.refuse why).txf = s.txf := rfl
@[simp] theorem State.refuse_rxb (why : RefuseReason) : (s.refuse why).rxb = s.rxb := rfl
@[simp] theorem State.refuse_portOpen (why : RefuseReason) : (s.refuse why).portOpen = s.portOpen := rfl
@[simp] theorem State.refuse_resultKind (why : RefuseReason) : (s.refuse why).resultKind = s.resultKind := rfl
@[simp] theorem State.refuse_resultData (why : RefuseReason) : (s.refuse why).resultData = s.resultData := rfl
@[simp] theorem State.refuse_cnt (why : RefuseReason) : (s.refuse why).cnt = s.cnt := rfl
@[simp] theorem State.refuse_refusal (why : RefuseReason) : (s.refuse why).refusal = some why := rfl
@[simp] theorem State.refuse_held (why : RefuseReason) : (s.refuse why).held = s.held := rfl
@[simp] theorem State.refuse_par (why : RefuseReason) : (s.refuse why).par = s.par := rfl
@[simp] theorem State.refuse_caller (why : RefuseReason) : (s.refuse why).caller = s.caller := rfl
@[simp] theorem State.refuse_replies (why : RefuseReason) : (s.refuse why).replies = s.replies := rfl
@[simp] theorem State.refuse_requests (why : RefuseReason) : (s.refuse why).requests = s.requests := rfl
@[simp] theorem State.refuse_env (why : RefuseReason) : (s.refuse why).env = s.env := rfl
@[simp] theorem State.refuse_tick (why : RefuseReason) : (s.refuse why).tick = s.tick := rfl

/-! ## countTx -/

@[simp] theorem State.countTx_seq (n : Nat) : (s.countTx n).seq = s.seq := rfl
@[simp] theorem State.countTx_cfg (n : Nat) : (s.countTx n).cfg = s.cfg := rfl
@[simp] theorem State.countTx_req (n : Nat) : (s.countTx n).req = s.req := rfl
@[simp] theorem State.countTx_txf (n : Nat) : (s.countTx n).txf = s.txf := rfl
@[simp] theorem State.countTx_rxb (n : Nat) : (s.countTx n).rxb = s.rxb := rfl
@[simp] theorem State.countTx_portOpen (n : Nat) : (s.countTx n).portOpen = s.portOpen := rfl
@[simp] theorem State.countTx_resultKind (n : Nat) : (s.countTx n).resultKind = s.resultKind := rfl
@[simp] theorem State.countTx_resultData (n : Nat) : (s.countTx n).resultData = s.resultData := rfl
@[simp] theorem State.countTx_cnt (n : Nat) : (s.countTx n).cnt =
    { s.cnt with
      txBytes := wrapAdd s.par.wCnt s.cnt.txBytes n, txPackets := wrapAdd s.par.wCnt s.cnt.txPackets 1 } := rfl
@[simp] theorem State.countTx_refusal (n : Nat) : (s.countTx n).refusal = s.refusal := rfl
@[simp] theorem State.countTx_held (n : Nat) : (s.countTx n).held = s.held := rfl
@[simp] theorem State.countTx_par (n : Nat) : (s.countTx n).par = s.par := rfl
@[simp] theorem State.countTx_caller (n : Nat) : (s.countTx n).caller = s.caller := rfl
@[simp] theorem State.countTx_replies (n : Nat) : (s.countTx n).replies = s.replies := rfl
@[simp] theorem State.countTx_requests (n : Nat) : (s.countTx n).requests = s.requests := rfl
@[simp] theorem State.countTx_env (n : Nat) : (s.countTx n).env = s.env := rfl
@[simp] theorem State.countTx_tick (n : Nat) : (s.countTx n).tick = s.tick := rfl

/-! ## countRx -/

@[simp] theorem State.countRx_seq (n : Nat) : (s.countRx n).seq = s.seq := rfl
@[simp] theorem State.countRx_cfg (n : Nat) : (s.countRx n).cfg = s.cfg := rfl
@[simp] theorem State.countRx_req (n : Nat) : (s.countRx n).req = s.req := rfl
@[simp] theorem State.countRx_txf (n : Nat) : (s.countRx n).txf = s.txf := rfl
@[simp] theorem State.countRx_rxb (n : Nat) : (s.countRx n).rxb = s.rxb := rfl
@[simp] theorem State.countRx_portOpen (n : Nat) : (s.countRx n).portOpen = s.portOpen := rfl
@[simp] theorem State.countRx_resultKind (n : Nat) : (s.countRx n).resultKind = s.resultKind := rfl
@[simp] theorem State.countRx_resultData (n : Nat) : (s.countRx n).resultData = s.resultData := rfl
@[simp] theorem State.countRx_cnt (n : Nat) : (s.countRx n).cnt =
    { s.cnt with
      rxBytes := wrapAdd s.par.wCnt s.cnt.rxBytes n, rxPackets := wrapAdd s.par.wCnt s.cnt.rxPackets 1 } := rfl
@[simp] theorem State.countRx_refusal (n : Nat) : (s.countRx n).refusal = s.refusal := rfl
@[simp] theorem State.countRx_held (n : Nat) : (s.countRx n).held = s.held := rfl
@[simp] theorem State.countRx_par (n : Nat) : (s.countRx n).par = s.par := rfl
@[simp] theorem State.countRx_caller (n : Nat) : (s.countRx n).caller = s.caller := rfl
@[simp] theorem State.countRx_replies (n : Nat) : (s.countRx n).replies = s.replies := rfl
@[simp] theorem State.countRx_requests (n : Nat) : (s.countRx n).requests = s.requests := rfl
@[simp] theorem State.countRx_env (n : Nat) : (s.countRx n).env = s.env := rfl
@[simp] theorem State.countRx_tick (n : Nat) : (s.countRx n).tick = s.tick := rfl

/-! ## countCrcError -/

@[simp] theorem State.countCrcError_seq : s.countCrcError.seq = s.seq := rfl
@[simp] theorem State.countCrcError_cfg : s.countCrcError.cfg = s.cfg := rfl
@[simp] theorem State.countCrcError_req : s.countCrcError.req = s.req := rfl
@[simp] theorem State.countCrcError_txf : s.countCrcError.txf = s.txf := rfl
@[simp] theorem State.countCrcError_rxb : s.countCrcError.rxb = s.rxb := rfl
@[simp] theorem State.countCrcError_portOpen : s.countCrcError.portOpen = s.portOpen := rfl
@[simp] theorem State.countCrcError_resultKind : s.countCrcError.resultKind = s.resultKind := rfl
@[simp] theorem State.countCrcError_resultData : s.countCrcError.resultData = s.resultData := rfl
@[simp] theorem State.countCrcError_cnt : s.countCrcError.cnt =
    { s.cnt with crcErrors := wrapAdd s.par.wCnt s.cnt.crcErrors 1 } := rfl
@[simp] theorem State.countCrcError_refusal : s.countCrcError.refusal = s.refusal := rfl
@[simp] theorem State.countCrcError_held : s.countCrcError.held = s.held := rfl
@[simp] theorem State.countCrcError_par : s.countCrcError.par = s.par := rfl
@[simp] theorem State.countCrcError_caller : s.countCrcError.caller = s.caller := rfl
@[simp] theorem State.countCrcError_replies : s.countCrcError.replies = s.replies := rfl
@[simp] theorem State.countCrcError_requests : s.countCrcError.requests = s.requests := rfl
@[simp] theorem State.countCrcError_env : s.countCrcError.env = s.env := rfl
@[simp] theorem State.countCrcError_tick : s.countCrcError.tick = s.tick := rfl

/-! ## countTimeout -/

@[simp] theorem State.countTimeout_seq : s.countTimeout.seq = s.seq := rfl
@[simp] theorem State.countTimeout_cfg : s.countTimeout.cfg = s.cfg := rfl
@[simp] theorem State.countTimeout_req : s.countTimeout.req = s.req := rfl
@[simp] theorem State.countTimeout_txf : s.countTimeout.txf = s.txf := rfl
@[simp] theorem State.countTimeout_rxb : s.countTimeout.rxb = s.rxb := rfl
@[simp] theorem State.countTimeout_portOpen : s.countTimeout.portOpen = s.portOpen := rfl
@[simp] theorem State.countTimeout_resultKind : s.countTimeout.resultKind = s.resultKind := rfl
@[simp] theorem State.countTimeout_resultData : s.countTimeout.resultData = s.resultData := rfl
@[simp] theorem State.countTimeout_cnt : s.countTimeout.cnt =
    { s.cnt with timeouts := wrapAdd s.par.wCnt s.cnt.timeouts 1 } := rfl
@[simp] theorem State.countTimeout_refusal : s.countTimeout.refusal = s.refusal := rfl
@[simp] theorem State.countTimeout_held : s.countTimeout.held = s.held := rfl
@[simp] theorem State.countTimeout_par : s.countTimeout.par = s.par := rfl
@[simp] theorem State.countTimeout_caller : s.countTimeout.caller = s.caller := rfl
@[simp] theorem State.countTimeout_replies : s.countTimeout.replies = s.replies := rfl
@[simp] theorem State.countTimeout_requests : s.countTimeout.requests = s.requests := rfl
@[simp] theorem State.countTimeout_env : s.countTimeout.env = s.env := rfl
@[simp] theorem State.countTimeout_tick : s.countTimeout.tick = s.tick := rfl

/-! ## accept -/

@[simp] theorem State.accept_seq (c : PortConfig) (q : List Byte) : (s.accept c q).seq = .opening := rfl
@[simp] theorem State.accept_cfg (c : PortConfig) (q : List Byte) : (s.accept c q).cfg = some c := rfl
@[simp] theorem State.accept_req (c : PortConfig) (q : List Byte) : (s.accept c q).req = q := rfl
@[simp] theorem State.accept_txf (c : PortConfig) (q : List Byte) : (s.accept c q).txf = [] := rfl
@[simp] theorem State.accept_rxb (c : PortConfig) (q : List Byte) : (s.accept c q).rxb = [] := rfl
@[simp] theorem State.accept_portOpen (c : PortConfig) (q : List Byte) : (s.accept c q).portOpen = s.portOpen := rfl
@[simp] theorem State.accept_resultKind (c : PortConfig) (q : List Byte) : (s.accept c q).resultKind = .none := rfl
@[simp] theorem State.accept_resultData (c : PortConfig) (q : List Byte) : (s.accept c q).resultData = [] := rfl
@[simp] theorem State.accept_cnt (c : PortConfig) (q : List Byte) : (s.accept c q).cnt = s.cnt := rfl
@[simp] theorem State.accept_refusal (c : PortConfig) (q : List Byte) : (s.accept c q).refusal = s.refusal := rfl
@[simp] theorem State.accept_held (c : PortConfig) (q : List Byte) : (s.accept c q).held = s.held := rfl
@[simp] theorem State.accept_par (c : PortConfig) (q : List Byte) : (s.accept c q).par = s.par := rfl
@[simp] theorem State.accept_caller (c : PortConfig) (q : List Byte) : (s.accept c q).caller = s.caller := rfl
@[simp] theorem State.accept_replies (c : PortConfig) (q : List Byte) : (s.accept c q).replies = s.replies := rfl
@[simp] theorem State.accept_requests (c : PortConfig) (q : List Byte) : (s.accept c q).requests = s.requests := rfl
@[simp] theorem State.accept_env (c : PortConfig) (q : List Byte) : (s.accept c q).env = s.env := rfl
@[simp] theorem State.accept_tick (c : PortConfig) (q : List Byte) : (s.accept c q).tick = s.tick := rfl

/-! ## release -/

@[simp] theorem State.release_seq : s.release.seq = s.seq := rfl
@[simp] theorem State.release_cfg : s.release.cfg = s.cfg := rfl
@[simp] theorem State.release_req : s.release.req = s.req := rfl
@[simp] theorem State.release_txf : s.release.txf = s.txf := rfl
@[simp] theorem State.release_rxb : s.release.rxb = s.rxb := rfl
@[simp] theorem State.release_portOpen : s.release.portOpen = s.portOpen := rfl
@[simp] theorem State.release_resultKind : s.release.resultKind = s.resultKind := rfl
@[simp] theorem State.release_resultData : s.release.resultData = s.resultData := rfl
@[simp] theorem State.release_cnt : s.release.cnt = s.cnt := rfl
@[simp] theorem State.release_refusal : s.release.refusal = s.refusal := rfl
@[simp] theorem State.release_held : s.release.held = [] := rfl
@[simp] theorem State.release_par : s.release.par = s.par := rfl
@[simp] theorem State.release_caller : s.release.caller = s.caller := rfl
@[simp] theorem State.release_replies : s.release.replies =
    s.held.map (fun h => (h, .result s.status s.resultData)) ++ s.replies := rfl
@[simp] theorem State.release_requests : s.release.requests = s.requests := rfl
@[simp] theorem State.release_env : s.release.env = s.env := rfl
@[simp] theorem State.release_tick : s.release.tick = s.tick := rfl

/-! ## finish -/

@[simp] theorem State.finish_seq (k : ResultKind) (p : List Byte) : (s.finish k p).seq = .done := rfl
@[simp] theorem State.finish_cfg (k : ResultKind) (p : List Byte) : (s.finish k p).cfg = s.cfg := rfl
@[simp] theorem State.finish_req (k : ResultKind) (p : List Byte) : (s.finish k p).req = s.req := rfl
@[simp] theorem State.finish_txf (k : ResultKind) (p : List Byte) : (s.finish k p).txf = s.txf := rfl
@[simp] theorem State.finish_rxb (k : ResultKind) (p : List Byte) : (s.finish k p).rxb = [] := rfl
@[simp] theorem State.finish_portOpen (k : ResultKind) (p : List Byte) : (s.finish k p).portOpen = false := rfl
@[simp] theorem State.finish_resultKind (k : ResultKind) (p : List Byte) : (s.finish k p).resultKind = k := rfl
@[simp] theorem State.finish_resultData (k : ResultKind) (p : List Byte) : (s.finish k p).resultData = p := rfl
@[simp] theorem State.finish_cnt (k : ResultKind) (p : List Byte) : (s.finish k p).cnt = s.cnt := rfl
@[simp] theorem State.finish_refusal (k : ResultKind) (p : List Byte) : (s.finish k p).refusal = s.refusal := rfl
@[simp] theorem State.finish_held (k : ResultKind) (p : List Byte) : (s.finish k p).held = [] := rfl
@[simp] theorem State.finish_par (k : ResultKind) (p : List Byte) : (s.finish k p).par = s.par := rfl
@[simp] theorem State.finish_caller (k : ResultKind) (p : List Byte) : (s.finish k p).caller = s.caller := rfl
@[simp] theorem State.finish_replies (k : ResultKind) (p : List Byte) : (s.finish k p).replies =
    s.held.map (fun h => (h, .result (statusWord .done k) p)) ++ s.replies := rfl
@[simp] theorem State.finish_requests (k : ResultKind) (p : List Byte) : (s.finish k p).requests = s.requests := rfl
@[simp] theorem State.finish_env (k : ResultKind) (p : List Byte) : (s.finish k p).env = s.env := rfl
@[simp] theorem State.finish_tick (k : ResultKind) (p : List Byte) : (s.finish k p).tick = s.tick := rfl

/-! ## hold -/

@[simp] theorem State.hold_seq : s.hold.seq = s.seq := rfl
@[simp] theorem State.hold_cfg : s.hold.cfg = s.cfg := rfl
@[simp] theorem State.hold_req : s.hold.req = s.req := rfl
@[simp] theorem State.hold_txf : s.hold.txf = s.txf := rfl
@[simp] theorem State.hold_rxb : s.hold.rxb = s.rxb := rfl
@[simp] theorem State.hold_portOpen : s.hold.portOpen = s.portOpen := rfl
@[simp] theorem State.hold_resultKind : s.hold.resultKind = s.resultKind := rfl
@[simp] theorem State.hold_resultData : s.hold.resultData = s.resultData := rfl
@[simp] theorem State.hold_cnt : s.hold.cnt = s.cnt := rfl
@[simp] theorem State.hold_refusal : s.hold.refusal = s.refusal := rfl
@[simp] theorem State.hold_held : s.hold.held = s.held.insert s.caller := rfl
@[simp] theorem State.hold_par : s.hold.par = s.par := rfl
@[simp] theorem State.hold_caller : s.hold.caller = s.caller := rfl
@[simp] theorem State.hold_replies : s.hold.replies = s.replies := rfl
@[simp] theorem State.hold_requests : s.hold.requests = s.requests := rfl
@[simp] theorem State.hold_env : s.hold.env = s.env := rfl
@[simp] theorem State.hold_tick : s.hold.tick = s.tick := rfl

/-! ## clear -/

@[simp] theorem State.clear_seq : s.clear.seq = .idle := rfl
@[simp] theorem State.clear_cfg : s.clear.cfg = none := rfl
@[simp] theorem State.clear_req : s.clear.req = [] := rfl
@[simp] theorem State.clear_txf : s.clear.txf = [] := rfl
@[simp] theorem State.clear_rxb : s.clear.rxb = [] := rfl
@[simp] theorem State.clear_portOpen : s.clear.portOpen = false := rfl
@[simp] theorem State.clear_resultKind : s.clear.resultKind = .none := rfl
@[simp] theorem State.clear_resultData : s.clear.resultData = [] := rfl
@[simp] theorem State.clear_cnt : s.clear.cnt = Counters.zero := rfl
@[simp] theorem State.clear_refusal : s.clear.refusal = s.refusal := rfl
@[simp] theorem State.clear_held : s.clear.held = s.held := rfl
@[simp] theorem State.clear_par : s.clear.par = s.par := rfl
@[simp] theorem State.clear_caller : s.clear.caller = s.caller := rfl
@[simp] theorem State.clear_replies : s.clear.replies = s.replies := rfl
@[simp] theorem State.clear_requests : s.clear.requests = s.requests := rfl
@[simp] theorem State.clear_env : s.clear.env = s.env := rfl
@[simp] theorem State.clear_tick : s.clear.tick = s.tick := rfl

/-- What POLL would return of a cleared block (R210). -/
theorem State.clear_resultReply : s.clear.resultReply = .result 0 [] :=
  congrArg (Reply.result · []) (by decide : statusWord .idle .none = 0)

/-! ## resetBlock -/

@[simp] theorem State.resetBlock_seq : s.resetBlock.seq = .idle := rfl
@[simp] theorem State.resetBlock_cfg : s.resetBlock.cfg = none := rfl
@[simp] theorem State.resetBlock_req : s.resetBlock.req = [] := rfl
@[simp] theorem State.resetBlock_txf : s.resetBlock.txf = [] := rfl
@[simp] theorem State.resetBlock_rxb : s.resetBlock.rxb = [] := rfl
@[simp] theorem State.resetBlock_portOpen : s.resetBlock.portOpen = false := rfl
@[simp] theorem State.resetBlock_resultKind : s.resetBlock.resultKind = .none := rfl
@[simp] theorem State.resetBlock_resultData : s.resetBlock.resultData = [] := rfl
@[simp] theorem State.resetBlock_cnt : s.resetBlock.cnt = Counters.zero := rfl
@[simp] theorem State.resetBlock_refusal : s.resetBlock.refusal = s.refusal := rfl
@[simp] theorem State.resetBlock_held : s.resetBlock.held = [] := rfl
@[simp] theorem State.resetBlock_par : s.resetBlock.par = s.par := rfl
@[simp] theorem State.resetBlock_caller : s.resetBlock.caller = s.caller := rfl
@[simp] theorem State.resetBlock_replies : s.resetBlock.replies =
    s.held.map (fun h => (h, .result 0 [])) ++ s.replies := by
  simp [State.resetBlock, State.release, s.clear_resultReply]
@[simp] theorem State.resetBlock_requests : s.resetBlock.requests = s.requests := rfl
@[simp] theorem State.resetBlock_env : s.resetBlock.env = s.env := rfl
@[simp] theorem State.resetBlock_tick : s.resetBlock.tick = s.tick := rfl

/-! ## presentFrame -/

@[simp] theorem State.presentFrame_seq (p : Packet) : (s.presentFrame p).seq = s.seq := rfl
@[simp] theorem State.presentFrame_cfg (p : Packet) : (s.presentFrame p).cfg = s.cfg := rfl
@[simp] theorem State.presentFrame_req (p : Packet) : (s.presentFrame p).req = s.req := rfl
@[simp] theorem State.presentFrame_txf (p : Packet) : (s.presentFrame p).txf = s.txf := rfl
@[simp] theorem State.presentFrame_rxb (p : Packet) : (s.presentFrame p).rxb = s.rxb := rfl
@[simp] theorem State.presentFrame_portOpen (p : Packet) : (s.presentFrame p).portOpen = s.portOpen := rfl
@[simp] theorem State.presentFrame_resultKind (p : Packet) : (s.presentFrame p).resultKind = s.resultKind := rfl
@[simp] theorem State.presentFrame_resultData (p : Packet) : (s.presentFrame p).resultData = s.resultData := rfl
@[simp] theorem State.presentFrame_cnt (p : Packet) : (s.presentFrame p).cnt = s.cnt := rfl
@[simp] theorem State.presentFrame_refusal (p : Packet) : (s.presentFrame p).refusal = s.refusal := rfl
@[simp] theorem State.presentFrame_held (p : Packet) : (s.presentFrame p).held = s.held := rfl
@[simp] theorem State.presentFrame_par (p : Packet) : (s.presentFrame p).par = s.par := rfl
@[simp] theorem State.presentFrame_caller (p : Packet) : (s.presentFrame p).caller = s.caller := rfl
@[simp] theorem State.presentFrame_replies (p : Packet) : (s.presentFrame p).replies =
    (s.caller, .frame (serialize p) (parse (serialize p))) :: s.replies := rfl
@[simp] theorem State.presentFrame_requests (p : Packet) : (s.presentFrame p).requests = s.requests := rfl
@[simp] theorem State.presentFrame_env (p : Packet) : (s.presentFrame p).env = s.env := rfl
@[simp] theorem State.presentFrame_tick (p : Packet) : (s.presentFrame p).tick = s.tick := rfl

/-! ## noteOpen -/

@[simp] theorem State.noteOpen_seq (ok : Bool) : (s.noteOpen ok).seq = s.seq := rfl
@[simp] theorem State.noteOpen_cfg (ok : Bool) : (s.noteOpen ok).cfg = s.cfg := rfl
@[simp] theorem State.noteOpen_req (ok : Bool) : (s.noteOpen ok).req = s.req := rfl
@[simp] theorem State.noteOpen_txf (ok : Bool) : (s.noteOpen ok).txf = s.txf := rfl
@[simp] theorem State.noteOpen_rxb (ok : Bool) : (s.noteOpen ok).rxb = s.rxb := rfl
@[simp] theorem State.noteOpen_portOpen (ok : Bool) : (s.noteOpen ok).portOpen = s.portOpen := rfl
@[simp] theorem State.noteOpen_resultKind (ok : Bool) : (s.noteOpen ok).resultKind = s.resultKind := rfl
@[simp] theorem State.noteOpen_resultData (ok : Bool) : (s.noteOpen ok).resultData = s.resultData := rfl
@[simp] theorem State.noteOpen_cnt (ok : Bool) : (s.noteOpen ok).cnt = s.cnt := rfl
@[simp] theorem State.noteOpen_refusal (ok : Bool) : (s.noteOpen ok).refusal = s.refusal := rfl
@[simp] theorem State.noteOpen_held (ok : Bool) : (s.noteOpen ok).held = s.held := rfl
@[simp] theorem State.noteOpen_par (ok : Bool) : (s.noteOpen ok).par = s.par := rfl
@[simp] theorem State.noteOpen_caller (ok : Bool) : (s.noteOpen ok).caller = s.caller := rfl
@[simp] theorem State.noteOpen_replies (ok : Bool) : (s.noteOpen ok).replies = s.replies := rfl
@[simp] theorem State.noteOpen_requests (ok : Bool) : (s.noteOpen ok).requests = .openPort s.cfg ok :: s.requests := rfl
@[simp] theorem State.noteOpen_env (ok : Bool) : (s.noteOpen ok).env = s.env := rfl
@[simp] theorem State.noteOpen_tick (ok : Bool) : (s.noteOpen ok).tick = s.tick := rfl

/-! ## noteWrite -/

@[simp] theorem State.noteWrite_seq (ok : Bool) : (s.noteWrite ok).seq = s.seq := rfl
@[simp] theorem State.noteWrite_cfg (ok : Bool) : (s.noteWrite ok).cfg = s.cfg := rfl
@[simp] theorem State.noteWrite_req (ok : Bool) : (s.noteWrite ok).req = s.req := rfl
@[simp] theorem State.noteWrite_txf (ok : Bool) : (s.noteWrite ok).txf = s.txf := rfl
@[simp] theorem State.noteWrite_rxb (ok : Bool) : (s.noteWrite ok).rxb = s.rxb := rfl
@[simp] theorem State.noteWrite_portOpen (ok : Bool) : (s.noteWrite ok).portOpen = s.portOpen := rfl
@[simp] theorem State.noteWrite_resultKind (ok : Bool) : (s.noteWrite ok).resultKind = s.resultKind := rfl
@[simp] theorem State.noteWrite_resultData (ok : Bool) : (s.noteWrite ok).resultData = s.resultData := rfl
@[simp] theorem State.noteWrite_cnt (ok : Bool) : (s.noteWrite ok).cnt = s.cnt := rfl
@[simp] theorem State.noteWrite_refusal (ok : Bool) : (s.noteWrite ok).refusal = s.refusal := rfl
@[simp] theorem State.noteWrite_held (ok : Bool) : (s.noteWrite ok).held = s.held := rfl
@[simp] theorem State.noteWrite_par (ok : Bool) : (s.noteWrite ok).par = s.par := rfl
@[simp] theorem State.noteWrite_caller (ok : Bool) : (s.noteWrite ok).caller = s.caller := rfl
@[simp] theorem State.noteWrite_replies (ok : Bool) : (s.noteWrite ok).replies = s.replies := rfl
@[simp] theorem State.noteWrite_requests (ok : Bool) : (s.noteWrite ok).requests = .write s.txf ok :: s.requests := rfl
@[simp] theorem State.noteWrite_env (ok : Bool) : (s.noteWrite ok).env = s.env := rfl
@[simp] theorem State.noteWrite_tick (ok : Bool) : (s.noteWrite ok).tick = s.tick := rfl

/-! ## openFail -/

@[simp] theorem State.openFail_seq : s.openFail.seq = .done := rfl
@[simp] theorem State.openFail_cfg : s.openFail.cfg = s.cfg := rfl
@[simp] theorem State.openFail_req : s.openFail.req = s.req := rfl
@[simp] theorem State.openFail_txf : s.openFail.txf = s.txf := rfl
@[simp] theorem State.openFail_rxb : s.openFail.rxb = [] := rfl
@[simp] theorem State.openFail_portOpen : s.openFail.portOpen = false := rfl
@[simp] theorem State.openFail_resultKind : s.openFail.resultKind = .portOpenError := rfl
@[simp] theorem State.openFail_resultData : s.openFail.resultData = [] := rfl
@[simp] theorem State.openFail_cnt : s.openFail.cnt = s.cnt := rfl
@[simp] theorem State.openFail_refusal : s.openFail.refusal = s.refusal := rfl
@[simp] theorem State.openFail_held : s.openFail.held = [] := rfl
@[simp] theorem State.openFail_par : s.openFail.par = s.par := rfl
@[simp] theorem State.openFail_caller : s.openFail.caller = s.caller := rfl
@[simp] theorem State.openFail_replies : s.openFail.replies =
    s.held.map (fun h => (h, .result 0x00000214 [])) ++ s.replies := by
  rw [← statusWord_done_portOpenError]; rfl
@[simp] theorem State.openFail_requests : s.openFail.requests = .openPort s.cfg false :: s.requests := rfl
@[simp] theorem State.openFail_env : s.openFail.env = s.env := rfl
@[simp] theorem State.openFail_tick : s.openFail.tick = s.tick := rfl

/-! ## openOk -/

@[simp] theorem State.openOk_seq : s.openOk.seq = .writing := rfl
@[simp] theorem State.openOk_cfg : s.openOk.cfg = s.cfg := rfl
@[simp] theorem State.openOk_req : s.openOk.req = s.req := rfl
@[simp] theorem State.openOk_txf : s.openOk.txf = frameOf s.req := rfl
@[simp] theorem State.openOk_rxb : s.openOk.rxb = s.rxb := rfl
@[simp] theorem State.openOk_portOpen : s.openOk.portOpen = true := rfl
@[simp] theorem State.openOk_resultKind : s.openOk.resultKind = s.resultKind := rfl
@[simp] theorem State.openOk_resultData : s.openOk.resultData = s.resultData := rfl
@[simp] theorem State.openOk_cnt : s.openOk.cnt = s.cnt := rfl
@[simp] theorem State.openOk_refusal : s.openOk.refusal = s.refusal := rfl
@[simp] theorem State.openOk_held : s.openOk.held = s.held := rfl
@[simp] theorem State.openOk_par : s.openOk.par = s.par := rfl
@[simp] theorem State.openOk_caller : s.openOk.caller = s.caller := rfl
@[simp] theorem State.openOk_replies : s.openOk.replies = s.replies := rfl
@[simp] theorem State.openOk_requests : s.openOk.requests = .openPort s.cfg true :: s.requests := rfl
@[simp] theorem State.openOk_env : s.openOk.env = s.env := rfl
@[simp] theorem State.openOk_tick : s.openOk.tick = s.tick := rfl

/-! ## writeFail -/

@[simp] theorem State.writeFail_seq : s.writeFail.seq = .done := rfl
@[simp] theorem State.writeFail_cfg : s.writeFail.cfg = s.cfg := rfl
@[simp] theorem State.writeFail_req : s.writeFail.req = s.req := rfl
@[simp] theorem State.writeFail_txf : s.writeFail.txf = s.txf := rfl
@[simp] theorem State.writeFail_rxb : s.writeFail.rxb = [] := rfl
@[simp] theorem State.writeFail_portOpen : s.writeFail.portOpen = false := rfl
@[simp] theorem State.writeFail_resultKind : s.writeFail.resultKind = .writeError := rfl
@[simp] theorem State.writeFail_resultData : s.writeFail.resultData = [] := rfl
@[simp] theorem State.writeFail_cnt : s.writeFail.cnt = s.cnt := rfl
@[simp] theorem State.writeFail_refusal : s.writeFail.refusal = s.refusal := rfl
@[simp] theorem State.writeFail_held : s.writeFail.held = [] := rfl
@[simp] theorem State.writeFail_par : s.writeFail.par = s.par := rfl
@[simp] theorem State.writeFail_caller : s.writeFail.caller = s.caller := rfl
@[simp] theorem State.writeFail_replies : s.writeFail.replies =
    s.held.map (fun h => (h, .result 0x00000314 [])) ++ s.replies := by
  rw [← statusWord_done_writeError]; rfl
@[simp] theorem State.writeFail_requests : s.writeFail.requests = .write s.txf false :: s.requests := rfl
@[simp] theorem State.writeFail_env : s.writeFail.env = s.env := rfl
@[simp] theorem State.writeFail_tick : s.writeFail.tick = s.tick := rfl

/-! ## writeOk -/

@[simp] theorem State.writeOk_seq : s.writeOk.seq = .receiving := rfl
@[simp] theorem State.writeOk_cfg : s.writeOk.cfg = s.cfg := rfl
@[simp] theorem State.writeOk_req : s.writeOk.req = s.req := rfl
@[simp] theorem State.writeOk_txf : s.writeOk.txf = s.txf := rfl
@[simp] theorem State.writeOk_rxb : s.writeOk.rxb = [] := rfl
@[simp] theorem State.writeOk_portOpen : s.writeOk.portOpen = s.portOpen := rfl
@[simp] theorem State.writeOk_resultKind : s.writeOk.resultKind = s.resultKind := rfl
@[simp] theorem State.writeOk_resultData : s.writeOk.resultData = s.resultData := rfl
@[simp] theorem State.writeOk_cnt : s.writeOk.cnt =
    { s.cnt with
      txBytes := wrapAdd s.par.wCnt s.cnt.txBytes s.txf.length, txPackets := wrapAdd s.par.wCnt s.cnt.txPackets 1 } := rfl
@[simp] theorem State.writeOk_refusal : s.writeOk.refusal = s.refusal := rfl
@[simp] theorem State.writeOk_held : s.writeOk.held = s.held := rfl
@[simp] theorem State.writeOk_par : s.writeOk.par = s.par := rfl
@[simp] theorem State.writeOk_caller : s.writeOk.caller = s.caller := rfl
@[simp] theorem State.writeOk_replies : s.writeOk.replies = s.replies := rfl
@[simp] theorem State.writeOk_requests : s.writeOk.requests = .write s.txf true :: s.requests := rfl
@[simp] theorem State.writeOk_env : s.writeOk.env = s.env := rfl
@[simp] theorem State.writeOk_tick : s.writeOk.tick = s.tick := rfl

/-! ## rxGapBad -/

@[simp] theorem State.rxGapBad_seq : s.rxGapBad.seq = .done := rfl
@[simp] theorem State.rxGapBad_cfg : s.rxGapBad.cfg = s.cfg := rfl
@[simp] theorem State.rxGapBad_req : s.rxGapBad.req = s.req := rfl
@[simp] theorem State.rxGapBad_txf : s.rxGapBad.txf = s.txf := rfl
@[simp] theorem State.rxGapBad_rxb : s.rxGapBad.rxb = [] := rfl
@[simp] theorem State.rxGapBad_portOpen : s.rxGapBad.portOpen = false := rfl
@[simp] theorem State.rxGapBad_resultKind : s.rxGapBad.resultKind = .crcError := rfl
@[simp] theorem State.rxGapBad_resultData : s.rxGapBad.resultData = [] := rfl
@[simp] theorem State.rxGapBad_cnt : s.rxGapBad.cnt =
    { s.cnt with crcErrors := wrapAdd s.par.wCnt s.cnt.crcErrors 1 } := rfl
@[simp] theorem State.rxGapBad_refusal : s.rxGapBad.refusal = s.refusal := rfl
@[simp] theorem State.rxGapBad_held : s.rxGapBad.held = [] := rfl
@[simp] theorem State.rxGapBad_par : s.rxGapBad.par = s.par := rfl
@[simp] theorem State.rxGapBad_caller : s.rxGapBad.caller = s.caller := rfl
@[simp] theorem State.rxGapBad_replies : s.rxGapBad.replies =
    s.held.map (fun h => (h, .result 0x00000514 [])) ++ s.replies := by
  rw [← statusWord_done_crcError]; rfl
@[simp] theorem State.rxGapBad_requests : s.rxGapBad.requests = s.requests := rfl
@[simp] theorem State.rxGapBad_env : s.rxGapBad.env = s.env := rfl
@[simp] theorem State.rxGapBad_tick : s.rxGapBad.tick = s.tick := rfl

/-! ## rxGapOk -/

@[simp] theorem State.rxGapOk_seq : s.rxGapOk.seq = .done := rfl
@[simp] theorem State.rxGapOk_cfg : s.rxGapOk.cfg = s.cfg := rfl
@[simp] theorem State.rxGapOk_req : s.rxGapOk.req = s.req := rfl
@[simp] theorem State.rxGapOk_txf : s.rxGapOk.txf = s.txf := rfl
@[simp] theorem State.rxGapOk_rxb : s.rxGapOk.rxb = [] := rfl
@[simp] theorem State.rxGapOk_portOpen : s.rxGapOk.portOpen = false := rfl
@[simp] theorem State.rxGapOk_resultKind : s.rxGapOk.resultKind = .ok := rfl
@[simp] theorem State.rxGapOk_resultData : s.rxGapOk.resultData = stripOf s.rxb := rfl
@[simp] theorem State.rxGapOk_cnt : s.rxGapOk.cnt =
    { s.cnt with
      rxBytes := wrapAdd s.par.wCnt s.cnt.rxBytes s.rxb.length, rxPackets := wrapAdd s.par.wCnt s.cnt.rxPackets 1 } := rfl
@[simp] theorem State.rxGapOk_refusal : s.rxGapOk.refusal = s.refusal := rfl
@[simp] theorem State.rxGapOk_held : s.rxGapOk.held = [] := rfl
@[simp] theorem State.rxGapOk_par : s.rxGapOk.par = s.par := rfl
@[simp] theorem State.rxGapOk_caller : s.rxGapOk.caller = s.caller := rfl
@[simp] theorem State.rxGapOk_replies : s.rxGapOk.replies =
    s.held.map (fun h => (h, .result 0x00000114 (stripOf s.rxb))) ++ s.replies := by
  rw [← statusWord_done_ok]; rfl
@[simp] theorem State.rxGapOk_requests : s.rxGapOk.requests = s.requests := rfl
@[simp] theorem State.rxGapOk_env : s.rxGapOk.env = s.env := rfl
@[simp] theorem State.rxGapOk_tick : s.rxGapOk.tick = s.tick := rfl

/-! ## rxDeadline -/

@[simp] theorem State.rxDeadline_seq : s.rxDeadline.seq = .done := rfl
@[simp] theorem State.rxDeadline_cfg : s.rxDeadline.cfg = s.cfg := rfl
@[simp] theorem State.rxDeadline_req : s.rxDeadline.req = s.req := rfl
@[simp] theorem State.rxDeadline_txf : s.rxDeadline.txf = s.txf := rfl
@[simp] theorem State.rxDeadline_rxb : s.rxDeadline.rxb = [] := rfl
@[simp] theorem State.rxDeadline_portOpen : s.rxDeadline.portOpen = false := rfl
@[simp] theorem State.rxDeadline_resultKind : s.rxDeadline.resultKind = .timeout := rfl
@[simp] theorem State.rxDeadline_resultData : s.rxDeadline.resultData = [] := rfl
@[simp] theorem State.rxDeadline_cnt : s.rxDeadline.cnt =
    { s.cnt with timeouts := wrapAdd s.par.wCnt s.cnt.timeouts 1 } := rfl
@[simp] theorem State.rxDeadline_refusal : s.rxDeadline.refusal = s.refusal := rfl
@[simp] theorem State.rxDeadline_held : s.rxDeadline.held = [] := rfl
@[simp] theorem State.rxDeadline_par : s.rxDeadline.par = s.par := rfl
@[simp] theorem State.rxDeadline_caller : s.rxDeadline.caller = s.caller := rfl
@[simp] theorem State.rxDeadline_replies : s.rxDeadline.replies =
    s.held.map (fun h => (h, .result 0x00000414 [])) ++ s.replies := by
  rw [← statusWord_done_timeout]; rfl
@[simp] theorem State.rxDeadline_requests : s.rxDeadline.requests = s.requests := rfl
@[simp] theorem State.rxDeadline_env : s.rxDeadline.env = s.env := rfl
@[simp] theorem State.rxDeadline_tick : s.rxDeadline.tick = s.tick := rfl

end Sys2Proof.Machine
end

