-- ==== Sys2Proof/Laws/Steps.lean ====
section
/-! SUPPORT. What one transition can do, said once: the moves of a host operation, of the sequencer and of the schedule,
and that every step is one of them. Proofs over steps take these cases apart instead of unfolding `step`. -/

namespace Sys2Proof.Machine

/-! ## Host operations -/

/-- Everything the execution of an instruction can do. -/
inductive HostMove : Instr → State → State → Prop
  | returned (i : Instr) (s : State) (r : Reply) : HostMove i s (s.reply r)
  | refused (i : Instr) (s : State) (why : RefuseReason) : HostMove i s (s.refuse why)
  | accepted (s : State) (port : PortId) (baud tmo : Word32) (req : List Byte)
      (fits : req.length ≤ s.par.reqCap) (free : s.busy = false) :
      HostMove (.txn port baud tmo req) s ((s.accept ⟨port, baud, tmo⟩ req).reply (.status .stOk))
  | heldInWait (s : State) (busy : s.busy = true) : HostMove .wait s s.hold
  | zeroed (s : State) : HostMove .statReset s ({ s with cnt := Counters.zero }.reply (.status .stOk))

theorem exec_moves (i : Instr) (s : State) : ∃ t, exec i s = .next t ∧ HostMove i s t := by
  cases i with
  | txn port baud tmo req =>
    simp only [exec, execTxn]
    by_cases hl : s.par.reqCap < req.length
    · exact ⟨_, if_pos hl, .refused _ _ _⟩
    · cases hb : s.busy with
      | true => exact ⟨_, by rw [if_neg hl]; rfl, .returned _ _ (.status .stBusy)⟩
      | false => exact ⟨_, by rw [if_neg hl]; rfl, .accepted s port baud tmo req (by omega) hb⟩
  | wait =>
    simp only [exec, execWait]
    cases hb : s.busy with
    | true => exact ⟨_, rfl, .heldInWait s hb⟩
    | false => exact ⟨_, rfl, .returned _ _ _⟩
  | stat idx =>
    simp only [exec, execStat]
    cases s.cnt.get? idx with
    | none => exact ⟨_, rfl, .refused _ _ _⟩
    | some v => exact ⟨_, rfl, .returned _ _ _⟩
  | statReset => exact ⟨_, rfl, .zeroed s⟩
  | poll => exact ⟨_, rfl, .returned _ _ _⟩
  | serialize p => exact ⟨_, rfl, .returned _ _ _⟩
  | parse f => exact ⟨_, rfl, .returned _ _ _⟩
  | variableWords p => exact ⟨_, rfl, .returned _ _ _⟩
  | asU32 w => exact ⟨_, rfl, .returned _ _ _⟩
  | asI32 w => exact ⟨_, rfl, .returned _ _ _⟩
  | asF32 w => exact ⟨_, rfl, .returned _ _ _⟩
  | getsizeReq id addr => exact ⟨_, rfl, .returned _ _ _⟩
  | getsizeOk id addr data => exact ⟨_, rfl, .returned _ _ _⟩
  | getsizeErr id result addr => exact ⟨_, rfl, .returned _ _ _⟩
  | getbufBReq id addr size => exact ⟨_, rfl, .returned _ _ _⟩
  | getbufBOk id addr size data => exact ⟨_, rfl, .returned _ _ _⟩
  | getbufBErr id result addr size => exact ⟨_, rfl, .returned _ _ _⟩
  | putbufBReq id addr size data => exact ⟨_, rfl, .returned _ _ _⟩
  | putbufBOk id addr size => exact ⟨_, rfl, .returned _ _ _⟩
  | putbufBErr id result addr size => exact ⟨_, rfl, .returned _ _ _⟩
  | getbuf id result addr => exact ⟨_, rfl, .returned _ _ _⟩
  | putbuf id result addr => exact ⟨_, rfl, .returned _ _ _⟩
  | undefCode0 id result addr => exact ⟨_, rfl, .returned _ _ _⟩
  | undefCode67 id result low addr => exact ⟨_, rfl, .returned _ _ _⟩
  | undefCode8F id result low addr => exact ⟨_, rfl, .returned _ _ _⟩

/-! ## The sequencer -/

/-- Everything a sequencer step can do (R134 to R141). -/
inductive SeqMove : LinkEvent → State → State → Prop
  | notEnabled (d : LinkEvent) (s : State) : SeqMove d s s
  | openFail (s : State) (at_ : s.seq = .opening) : SeqMove (.openAnswer false) s s.openFail
  | openOk (s : State) (at_ : s.seq = .opening) : SeqMove (.openAnswer true) s s.openOk
  | writeFail (s : State) (at_ : s.seq = .writing) : SeqMove (.writeAnswer false) s s.writeFail
  | writeOk (s : State) (at_ : s.seq = .writing) : SeqMove (.writeAnswer true) s s.writeOk
  | rxByte (s : State) (b : Byte) (at_ : s.seq = .receiving) (room : s.rxb.length ≠ s.par.rxCap) :
      SeqMove (.byte b) s { s with rxb := s.rxb ++ [b] }
  | rxOverflow (s : State) (b : Byte) (at_ : s.seq = .receiving) (full : s.rxb.length = s.par.rxCap) :
      SeqMove (.byte b) s (s.refuse .rxOverflow)
  | gapBad (s : State) (at_ : s.seq = .receiving) (some_ : s.rxb ≠ []) (bad : checkOf s.rxb = false) :
      SeqMove .gap s s.rxGapBad
  | gapOk (s : State) (at_ : s.seq = .receiving) (some_ : s.rxb ≠ []) (good : checkOf s.rxb = true) :
      SeqMove .gap s s.rxGapOk
  | deadline (s : State) (at_ : s.seq = .receiving) : SeqMove .deadline s s.rxDeadline

theorem seqStep_moves (d : LinkEvent) (s : State) : SeqMove d s (s.seqStep d) := by
  cases hq : s.seq with
  | idle => simp only [State.seqStep, hq]; exact .notEnabled _ _
  | done => simp only [State.seqStep, hq]; exact .notEnabled _ _
  | opening =>
    simp only [State.seqStep, hq]
    cases d with
    | openAnswer ok => cases ok <;> simp only [State.stepOpening]
                       · exact .openFail s hq
                       · exact .openOk s hq
    | writeAnswer ok => exact .notEnabled _ _
    | byte b => exact .notEnabled _ _
    | gap => exact .notEnabled _ _
    | deadline => exact .notEnabled _ _
  | writing =>
    simp only [State.seqStep, hq]
    cases d with
    | writeAnswer ok => cases ok <;> simp only [State.stepWriting]
                        · exact .writeFail s hq
                        · exact .writeOk s hq
    | openAnswer ok => exact .notEnabled _ _
    | byte b => exact .notEnabled _ _
    | gap => exact .notEnabled _ _
    | deadline => exact .notEnabled _ _
  | receiving =>
    simp only [State.seqStep, hq]
    cases d with
    | openAnswer ok => exact .notEnabled _ _
    | writeAnswer ok => exact .notEnabled _ _
    | byte b =>
      simp only [State.stepReceiving, State.rxByte]
      split
      · exact .rxOverflow s b hq ‹_›
      · exact .rxByte s b hq ‹_›
    | gap =>
      simp only [State.stepReceiving, State.rxGap]
      split
      · exact .notEnabled _ _
      · split
        · exact .gapOk s hq ‹_› ‹_›
        · exact .gapBad s hq ‹_› (by simpa using ‹¬ checkOf s.rxb = true›)
    | deadline => exact .deadline s hq

/-! ## The schedule -/

/-- Everything one event can do. -/
inductive Move : Event → State → State → Prop
  | noStep (e : Event) (s : State) (notReset : e ≠ .reset) : Move e s s
  | executed (h : Nat) (c : Code) (i : Instr) (s t : State) (mayIssue : s.mayIssue h = true)
      (decoded : decode c = .ok i) (move : HostMove i { s with caller := h } t) : Move (.host h c) s t
  | rejected (h : Nat) (c : Code) (r : DecodeReject) (s : State) (mayIssue : s.mayIssue h = true)
      (bad : decode c = .reject r) : Move (.host h c) s ({ s with caller := h }.onReject c)
  | sequencer (d : LinkEvent) (s t : State) (move : SeqMove d s t) : Move (.link d) s t
  | reset (s : State) : Move .reset s s.resetBlock

theorem runEvent_moves (e : Event) (s : State) : ∃ t, runEvent e s = .next t ∧ Move e s t := by
  cases e with
  | host h c =>
    simp only [runEvent]
    cases hm : s.mayIssue h with
    | false => exact ⟨s, by simp, .noStep _ _ nofun⟩
    | true =>
      simp only [if_true, execCode]
      cases hd : decode c with
      | ok i =>
        obtain ⟨t, ht, hmove⟩ := exec_moves i { s with caller := h }
        exact ⟨t, ht, .executed h c i s t hm hd hmove⟩
      | reject r => exact ⟨_, rfl, .rejected h c r s hm hd⟩
  | link d => exact ⟨_, rfl, .sequencer d s _ (seqStep_moves d s)⟩
  | reset => exact ⟨_, rfl, .reset s⟩

/-- Taking the next event changes the schedule and nothing else. -/
theorem nextEvent_state (s : State) :
    s.nextEvent.2 = { s with env := s.nextEvent.2.env, tick := s.nextEvent.2.tick } := by
  unfold State.nextEvent
  split <;> rfl

theorem nextEvent_cons {s : State} {e : Event} {rest : List Event} (h : s.env = e :: rest) :
    s.nextEvent = (e, { s with env := rest }) := by
  simp only [State.nextEvent, h]

theorem nextEvent_nil {s : State} (h : s.env = []) :
    s.nextEvent = (Config.freeEvent s.tick, { s with tick := s.tick + 1 }) := by
  simp only [State.nextEvent, h]

/-- A listed event is what `step` runs. -/
theorem step_cons {s : State} {e : Event} {rest : List Event} (h : s.env = e :: rest) :
    step s = runEvent e { s with env := rest } := by
  simp only [step, nextEvent_cons h]

/-- The inversion of a step: the next event of the schedule, and one of its moves. -/
theorem step_moves {s t : State} (h : step s = .next t) : Move s.nextEvent.1 s.nextEvent.2 t := by
  obtain ⟨t', ht, hmove⟩ := runEvent_moves s.nextEvent.1 s.nextEvent.2
  rw [step, ht] at h
  cases h
  exact hmove

/-- A host that is one of the block's hosts and is not held may issue, whatever the schedule holds. -/
theorem mayIssue_of {s : State} {h : Nat} (exists_ : h ≤ s.par.extraHosts) (free : h ∉ s.held) : s.mayIssue h = true := by
  simp [State.mayIssue, exists_, free]

/-! ## What the moves keep -/

/-- A host stops being held only by a step that ends a transaction (R161) or a reset (R211). -/
theorem Move.held_lifted {e : Event} {s t : State} (move : Move e s t) {h : Nat} (before : h ∈ s.held) (after : h ∉ t.held) :
    e = .reset ∨ (s.busy = true ∧ t.seq = .done) := by
  cases move with
  | noStep => exact absurd before after
  | executed _ _ _ _ _ _ _ hm =>
    cases hm <;> first | exact absurd before after | exact absurd (List.mem_insert_of_mem before) after
  | rejected _ c _ => cases c <;> exact absurd before after
  | sequencer _ _ _ hm =>
    cases hm <;> first | exact absurd before after | exact .inr ⟨by simp_all [State.busy, SeqState.busy], rfl⟩
  | reset => exact .inl rfl

/-! ## Runs -/

/-- A machine's run of one step more. -/
theorem core_run_succ (M : Host.Core) {s t : M.State} (h : M.step s = .next t) (k : Nat) : M.run (k + 1) s = M.run k t := by
  simp [Host.Core.run, h]

/-- The run of this machine of one step more. -/
theorem run_succ {s t : State} (h : step s = .next t) (k : Nat) : core.run (k + 1) s = core.run k t :=
  core_run_succ core h k

/-- A run is cut anywhere before it stops. -/
theorem core_run_add (M : Host.Core) {s t : M.State} {j : Nat} (h : M.run j s = .next t) (k : Nat) :
    M.run (j + k) s = M.run k t := by
  induction j generalizing s with
  | zero => simp only [Host.Core.run, Host.Outcome.next.injEq] at h; subst h; simp
  | succ j ih =>
    rw [show j + 1 + k = (j + k) + 1 by omega, Host.Core.run]
    rw [Host.Core.run] at h
    split at h <;> simp_all

end Sys2Proof.Machine
end

