-- ==== Sys2Proof/Laws/Runs.lean ====
section
/-! SUPPORT. Runs whose events are chosen from outside (R59, R221): what one of their transitions can do, that a step of the
machine is one of them, and the run that a schedule gives. -/

namespace Sys2Proof.Machine

/-- A step is a transition of a run: its event is the next one of the schedule. -/
theorem takes_of_step {s t : State} (h : step s = .next t) : Takes s.nextEvent.1 s t :=
  ⟨s.nextEvent.2.env, s.nextEvent.2.tick, by rw [← nextEvent_state]; exact h⟩

/-- The inversion of a transition: one of the moves of its event, from the same state with some schedule. -/
theorem Takes.move {e : Event} {s t : State} (h : Takes e s t) :
    ∃ env tick, Move e { s with env := env, tick := tick } t := by
  obtain ⟨env, tick, ht⟩ := h
  obtain ⟨u, hu, hm⟩ := runEvent_moves e { s with env := env, tick := tick }
  rw [ht] at hu
  cases hu
  exact ⟨env, tick, hm⟩

/-- The state a transition leads to. -/
def transition (e : Event) (s : State) : State :=
  match runEvent e s with
  | .next t => t
  | .fault _ => s
  | .refused _ => s

/-- The state after `n` events of a schedule. -/
def runOf (sched : Nat → Event) (s : State) (n : Nat) : State :=
  match n with
  | 0 => s
  | n + 1 => transition (sched n) (runOf sched s n)

theorem runEvent_transition (e : Event) (s : State) : runEvent e s = .next (transition e s) := by
  obtain ⟨t, ht, _⟩ := runEvent_moves e s
  simp [transition, ht]

/-- Every schedule gives a run from every state. -/
theorem runOf_isRun (sched : Nat → Event) (s : State) : IsRun sched (runOf sched s) := fun n =>
  ⟨(runOf sched s n).env, (runOf sched s n).tick, runEvent_transition (sched n) (runOf sched s n)⟩

/-- Only a draw that is enabled moves the sequencer (R141, R196). -/
theorem seqStep_of_not_enabled {d : LinkEvent} {s : State} (h : s.enables d = false) : s.seqStep d = s := by
  cases hq : s.seq <;> cases d <;>
    simp_all [State.enables, State.seqStep, State.stepOpening, State.stepWriting, State.stepReceiving, State.rxGap]

/-- A busy sequencer has an enabled draw (R141). -/
theorem enabled_of_busy {s : State} (h : s.busy = true) : ∃ d, s.enables d = true := by
  rcases s.busy_eq_true.1 h with h | h | h
  · exact ⟨.openAnswer true, by simp [State.enables, h]⟩
  · exact ⟨.writeAnswer true, by simp [State.enables, h]⟩
  · exact ⟨.deadline, by simp [State.enables, h]⟩

end Sys2Proof.Machine
end

