-- ==== Sys2Proof/Tests/Slice0.lean ====
section
/-! SUPPORT. Tests of single steps, their expected values from spec/95_test_vectors.md (the vector is named before each
test) or worked out from the rule named, and a witness for the hypotheses of every statement. -/

namespace Sys2Proof.Tests

open Sys2Proof Sys2Proof.Machine

/-! ## States and what a step shows -/

/-- The request of V-T1. -/
def request : List Byte := [0x05, 0x01, 0x10, 0x00]

/-- The configuration of V-T1, with the port P0. -/
def config : PortConfig := ⟨⟨0⟩, 9600, 100⟩

/-- After V-T1. -/
def opening : State := { State.reset with seq := .opening, cfg := some config, req := request }

/-- After V-T1 and an open that succeeded. -/
def writing : State := { opening with seq := .writing, portOpen := true, txf := frameOf request }

/-- After V-T7. -/
def receiving : State :=
  { writing with
    seq := .receiving
    cnt := { Counters.zero with txBytes := 6, txPackets := 1 } }

/-- After V-T8. -/
def timedOut : State :=
  { writing with
    seq := .done
    portOpen := false
    resultKind := .timeout
    cnt := { Counters.zero with txBytes := 6, txPackets := 1, timeouts := 1 } }

/-- A state with the event `e` next. -/
def State.withNext (e : Event) (s : State) : State := { s with env := [e] }

/-- A state of a block with two hosts. -/
def State.twoHosts (s : State) : State := { s with par := { s.par with extraHosts := 1 } }

def nextOf (o : Host.Outcome State Fault Refusal) : Option State :=
  match o with
  | .next t => some t
  | .fault _ => none
  | .refused _ => none

/-- The value the last operation of the executing host returned. -/
def answer (i : Instr) (s : State) : Option (Nat × Reply) := (nextOf (exec i s)).bind (fun t => t.replies.head?)

/-! ## WellFormed refuses the ill-formed terms (R87) -/

theorem test_ill_formed_getsizeErr : (Instr.getsizeErr 5 1 0x10).WellFormed = false := by decide
theorem test_ill_formed_getbufBErr : (Instr.getbufBErr 5 0 0x10 1).WellFormed = false := by decide
theorem test_ill_formed_putbufBErr : (Instr.putbufBErr 5 1 0x10 1).WellFormed = false := by decide
theorem test_well_formed_error : (Instr.getsizeErr 5 2 0x10).WellFormed = true := by decide

/-! ## Decoding, one code per constructor, written out from R71 and R77 to R81 -/

theorem test_decode_txn : decode (.hop { op := 0b00000001, port := ⟨7⟩, baud := 9600, tmo := 100, bytes := request })
    = .ok (.txn ⟨7⟩ 9600 100 request) := by decide
theorem test_decode_poll : decode (.hop { op := 0b00000010 }) = .ok .poll := by decide
theorem test_decode_wait : decode (.hop { op := 0b00000011 }) = .ok .wait := by decide
theorem test_decode_stat : decode (.hop { op := 0b00010101 }) = .ok (.stat 5) := by decide
theorem test_decode_statReset : decode (.hop { op := 0b00100000 }) = .ok .statReset := by decide
theorem test_decode_serialize : decode (.hop { op := 0b01000000, packet := ⟨1, 2, 3, 4, [5]⟩ })
    = .ok (.serialize ⟨1, 2, 3, 4, [5]⟩) := by decide
theorem test_decode_parse : decode (.hop { op := 0b01000001, bytes := [1, 2] }) = .ok (.parse [1, 2]) := by decide
theorem test_decode_variables : decode (.hop { op := 0b01000010, packet := ⟨1, 2, 3, 4, [5]⟩ })
    = .ok (.variableWords ⟨1, 2, 3, 4, [5]⟩) := by decide
theorem test_decode_asU32 : decode (.hop { op := 0b01000011, word := 0xFFFFFFFF }) = .ok (.asU32 0xFFFFFFFF) := by decide
theorem test_decode_asI32 : decode (.hop { op := 0b01000100, word := 0x80000000 }) = .ok (.asI32 0x80000000) := by decide
theorem test_decode_asF32 : decode (.hop { op := 0b01000101, word := 0x3F800000 }) = .ok (.asF32 0x3F800000) := by decide
-- Frames: id, cmd = result ++ code, addr low byte first, size low byte first, data.
theorem test_decode_getsizeReq : decode (.frame [0x05, 0b00000001, 0x34, 0x12]) = .ok (.getsizeReq 5 0x1234) := by decide
theorem test_decode_getsizeOk : decode (.frame [0x05, 0b00010001, 0x34, 0x12, 4, 0, 0, 0])
    = .ok (.getsizeOk 5 0x1234 [4, 0, 0, 0]) := by decide
theorem test_decode_getsizeErr : decode (.frame [0x05, 0b00100001, 0x34, 0x12]) = .ok (.getsizeErr 5 2 0x1234) := by
  decide
theorem test_decode_getbufBReq : decode (.frame [0x01, 0b00000010, 0x34, 0x12, 0x78, 0x56])
    = .ok (.getbufBReq 1 0x1234 0x5678) := by decide
theorem test_decode_getbufBOk : decode (.frame [0x01, 0b00010010, 0x34, 0x12, 0x01, 0x00, 0xAA])
    = .ok (.getbufBOk 1 0x1234 1 [0xAA]) := by decide
theorem test_decode_getbufBErr : decode (.frame [0x01, 0b11110010, 0x34, 0x12, 0x78, 0x56])
    = .ok (.getbufBErr 1 0xF 0x1234 0x5678) := by decide
theorem test_decode_putbufBReq : decode (.frame [0x01, 0b00000100, 0x00, 0x01, 0x02, 0x00, 0x78, 0x56])
    = .ok (.putbufBReq 1 0x0100 2 [0x78, 0x56]) := by decide
theorem test_decode_putbufBOk : decode (.frame [0x01, 0b00010100, 0x00, 0x01, 0x04, 0x00])
    = .ok (.putbufBOk 1 0x0100 4) := by decide
theorem test_decode_putbufBErr : decode (.frame [0x01, 0b10010100, 0x00, 0x01, 0x04, 0x00])
    = .ok (.putbufBErr 1 9 0x0100 4) := by decide
theorem test_decode_getbuf : decode (.frame [0x01, 0b00000011, 0x00, 0x01]) = .ok (.getbuf 1 0 0x0100) := by decide
theorem test_decode_putbuf : decode (.frame [0x01, 0b00010101, 0x00, 0x01]) = .ok (.putbuf 1 1 0x0100) := by decide
theorem test_decode_undefCode0 : decode (.frame [0x01, 0b01010000, 0x00, 0x01]) = .ok (.undefCode0 1 5 0x0100) := by decide
theorem test_decode_undefCode67 : decode (.frame [0x01, 0b00110111, 0x00, 0x01])
    = .ok (.undefCode67 1 3 0b1 0x0100) := by decide
theorem test_decode_undefCode8F : decode (.frame [0x01, 0b00001110, 0x00, 0x01])
    = .ok (.undefCode8F 1 0 0b110 0x0100) := by decide

/-- An opcode table word placed by `withFetchWord` is what the next step runs: POLL (0x02) right after reset (V-H1). -/
theorem test_fetch_word_runs : (nextOf (step (State.reset.withFetchWord 8 0x02))).map (fun t => t.replies)
    = some [(0, .result 0x00000000 [])] := by decide
/-- A command byte that is no host opcode is a frame of zeros: PUTBUF_B.OK has code 4, result 1, and is STAT index 4 as a
host opcode; GETSIZE.ERR with result 2 is 0x21 and no host opcode. -/
theorem test_table_word_of_a_frame : decodeTableWord 8 0x21 = some (.getsizeErr 0 2 0) := by decide

/-! ## The host operations -/

/-- V-T1. -/
theorem test_txn_accepted : answer (.txn ⟨0⟩ 9600 100 request) State.reset = some (0, .status .stOk)
    ∧ (nextOf (exec (.txn ⟨0⟩ 9600 100 request) State.reset)).map (fun t => (t.status, t.req, t.cfg))
        = some (0x00000009, request, some config) := by decide
/-- V-T4. -/
theorem test_txn_too_long :
    (nextOf (exec (.txn ⟨0⟩ 9600 100 [1, 2, 3, 4, 5])
      { State.reset with par := { State.reset.par with reqCap := 4 } })).map (fun t => (t.refusedMark, t.seq))
    = some (true, .idle) := by decide
/-- V-H3 (one POLL). -/
theorem test_poll_done : answer .poll { timedOut with resultKind := .ok, resultData := [5, 0x11] }
    = some (0, .result 0x00000114 [5, 0x11]) := by decide
/-- V-H2. -/
theorem test_poll_receiving : answer .poll receiving = some (0, .result 0x0000000B []) := by decide
/-- V-H4. -/
theorem test_wait_done : answer .wait timedOut = some (0, .result 0x00000414 []) := by decide
/-- V-H5: WAIT in RECV holds and returns nothing. -/
theorem test_wait_holds : (nextOf (exec .wait receiving)).map (fun t => (t.held, t.replies)) = some ([0], []) := by decide
/-- R34: index 1 is RX_BYTES, index 2 TX_PACKETS. -/
theorem test_stat_indexes : answer (.stat 1) { State.reset with cnt := ⟨10, 11, 12, 13, 14, 15⟩ } = some (0, .counter 11)
    ∧ answer (.stat 2) { State.reset with cnt := ⟨10, 11, 12, 13, 14, 15⟩ } = some (0, .counter 12) := by decide
/-- V-H7. -/
theorem test_stat_refused : (nextOf (exec (.stat 6) State.reset)).map (fun t => (t.refusal, t.replies))
    = some (some .badCounterIndex, []) := by decide
/-- V-H8. -/
theorem test_stat_reset : (nextOf (exec .statReset { State.reset with cnt := ⟨6, 10, 1, 1, 0, 0⟩ })).map
      (fun t => (t.cnt, t.replies)) = some (⟨0, 0, 0, 0, 0, 0⟩, [(0, .status .stOk)]) := by decide
/-- V-S6. -/
theorem test_serialize_data : answer (.serialize ⟨1, 0x12, 0x1234, 2, [0xAA, 0xBB]⟩) State.reset
    = some (0, .bytes [0x01, 0x12, 0x34, 0x12, 0x02, 0x00, 0xAA, 0xBB]) := by decide
/-- V-S4, V-S9 and V-S11: data dropped. -/
theorem test_serialize_drops : serialize ⟨5, 0x51, 0x0010, 0, [4, 0, 0, 0]⟩ = [0x05, 0x51, 0x10, 0x00]
    ∧ serialize ⟨1, 0x14, 0x0100, 4, [0x78, 0x56, 0x34, 0x12]⟩ = [0x01, 0x14, 0x00, 0x01, 0x04, 0x00]
    ∧ serialize ⟨1, 0x03, 0, 5, [1, 2]⟩ = [0x01, 0x03, 0x00, 0x00] := by decide
/-- V-P4. -/
theorem test_parse_getsize_ok : answer (.parse [0x05, 0x11, 0x10, 0x00, 0x04, 0x00, 0x00, 0x00]) State.reset
    = some (0, .parsed (.ok ⟨5, 0x11, 0x0010, 0, [4, 0, 0, 0]⟩)) := by decide
/-- V-P2, V-P9, V-P12, V-P16. -/
theorem test_parse_errors : parse [0x05, 0x01, 0x10] = .error .frameTooShort
    ∧ parse [0x01, 0x02, 0x34, 0x12] = .error .trailingOrMissingBytes
    ∧ parse [0x01, 0x12, 0x34, 0x12, 0x03, 0x00, 0xAA, 0xBB] = .error .trailingOrMissingBytes
    ∧ parse [0x01, 0x03, 0x00, 0x00, 0x01, 0x02, 0x03] = .error .unknownCommand := by decide
/-- V-V4. -/
theorem test_variables_two_words : answer (.variableWords ⟨0, 0, 0, 0, [1, 0, 0, 0, 0xFF, 0xFF, 0xFF, 0xFF]⟩) State.reset
    = some (0, .words [0x00000001, 0xFFFFFFFF]) := by decide
/-- V-V3, V-V5. -/
theorem test_variables_lengths : variableWords [1, 2, 3, 4, 5, 6] = [] ∧ variableWords [0x78, 0x56, 0x34, 0x12] = [0x12345678] := by
  decide
/-- V-U1. -/
theorem test_asU32 : answer (.asU32 0xFFFFFFFF) State.reset = some (0, .nat 4294967295) := by decide
/-- V-I1. -/
theorem test_asI32 : answer (.asI32 0xFFFFFFF6) State.reset = some (0, .int (-10))
    ∧ asI32 0x80000000 = -2147483648 ∧ asI32 0x7FFFFFFF = 2147483647 ∧ asI32 0xFFFFFFFF = -1 := by decide
/-- V-F1: 1.0 is 2^23 * 2^(-23). -/
theorem test_asF32 : answer (.asF32 0x3F800000) State.reset = some (0, .float (.finite false 8388608 (-23)))
    ∧ asF32 0x00000000 = .zero false ∧ asF32 0x80000000 = .zero true := by decide
/-- V-F2. -/
theorem test_asF32_special : asF32 0x7F800000 = .infinity false ∧ asF32 0x7FC00001 = .nan false 0x400001
    ∧ asF32 0x00000001 = .finite false 1 (-149) := by decide

/-! ## The frame classes -/

/-- V-S1 and V-P3. -/
theorem test_getsizeReq : answer (.getsizeReq 5 0x0010) State.reset
    = some (0, .frame [0x05, 0x01, 0x10, 0x00] (.ok ⟨5, 0x01, 0x0010, 0, []⟩)) := by decide
/-- V-S3 and V-P4; three data bytes do not parse (V-P5). -/
theorem test_getsizeOk : answer (.getsizeOk 5 0x0010 [4, 0, 0, 0]) State.reset
      = some (0, .frame [0x05, 0x11, 0x10, 0x00, 4, 0, 0, 0] (.ok ⟨5, 0x11, 0x0010, 0, [4, 0, 0, 0]⟩))
    ∧ answer (.getsizeOk 5 0x0010 [4, 0, 0]) State.reset
      = some (0, .frame [0x05, 0x11, 0x10, 0x00, 4, 0, 0] (.error .trailingOrMissingBytes)) := by decide
/-- V-P7. -/
theorem test_getsizeErr : answer (.getsizeErr 5 2 0x0010) State.reset
    = some (0, .frame [0x05, 0x21, 0x10, 0x00] (.ok ⟨5, 0x21, 0x0010, 0, []⟩)) := by decide
/-- V-S5 and V-P20. -/
theorem test_getbufBReq : answer (.getbufBReq 1 0x1234 8) State.reset
    = some (0, .frame [0x01, 0x02, 0x34, 0x12, 0x08, 0x00] (.ok ⟨1, 0x02, 0x1234, 8, []⟩)) := by decide
/-- V-P11; V-S14 does not parse. -/
theorem test_getbufBOk : answer (.getbufBOk 1 0x1234 2 [0xAA, 0xBB]) State.reset
      = some (0, .frame [0x01, 0x12, 0x34, 0x12, 0x02, 0x00, 0xAA, 0xBB] (.ok ⟨1, 0x12, 0x1234, 2, [0xAA, 0xBB]⟩))
    ∧ answer (.getbufBOk 1 0 3 [0xAA]) State.reset
      = some (0, .frame [0x01, 0x12, 0x00, 0x00, 0x03, 0x00, 0xAA] (.error .trailingOrMissingBytes)) := by decide
/-- V-P19. -/
theorem test_getbufBErr : answer (.getbufBErr 1 0xF 0x1234 5) State.reset
    = some (0, .frame [0x01, 0xF2, 0x34, 0x12, 0x05, 0x00] (.ok ⟨1, 0xF2, 0x1234, 5, []⟩)) := by decide
/-- V-S8 and V-P13. -/
theorem test_putbufBReq : answer (.putbufBReq 1 0x0100 4 [0x78, 0x56, 0x34, 0x12]) State.reset
    = some (0, .frame [0x01, 0x04, 0x00, 0x01, 0x04, 0x00, 0x78, 0x56, 0x34, 0x12] (.error .trailingOrMissingBytes)) := by
  decide
/-- V-P14. -/
theorem test_putbufBOk : answer (.putbufBOk 1 0x0100 4) State.reset
    = some (0, .frame [0x01, 0x14, 0x00, 0x01, 0x04, 0x00] (.ok ⟨1, 0x14, 0x0100, 4, []⟩)) := by decide
/-- R80, R105: an error response keeps `size`. -/
theorem test_putbufBErr : answer (.putbufBErr 1 9 0x0100 4) State.reset
    = some (0, .frame [0x01, 0x94, 0x00, 0x01, 0x04, 0x00] (.ok ⟨1, 0x94, 0x0100, 4, []⟩)) := by decide
/-- V-P15. -/
theorem test_getbuf : answer (.getbuf 1 0 0) State.reset
    = some (0, .frame [0x01, 0x03, 0x00, 0x00] (.error .unknownCommand)) := by decide
/-- R81. -/
theorem test_putbuf : answer (.putbuf 1 1 0x0100) State.reset
    = some (0, .frame [0x01, 0x15, 0x00, 0x01] (.error .unknownCommand)) := by decide
/-- V-S12 and V-P17. -/
theorem test_undefCode0 : answer (.undefCode0 0 0 0) State.reset
    = some (0, .frame [0x00, 0x00, 0x00, 0x00] (.error .unknownCommand)) := by decide
/-- R81. -/
theorem test_undefCode67 : answer (.undefCode67 1 3 1 0x0100) State.reset
    = some (0, .frame [0x01, 0x37, 0x00, 0x01] (.error .unknownCommand)) := by decide
/-- V-P22. -/
theorem test_undefCode8F : answer (.undefCode8F 5 0 0b110 0x0010) State.reset
    = some (0, .frame [0x05, 0x0E, 0x10, 0x00] (.error .unknownCommand)) := by decide

/-! ## The sequencer and reset -/

/-- V-T5. -/
theorem test_open_fail : (nextOf (step (State.withNext (.link (.openAnswer false)) opening))).map
    (fun t => (t.status, t.portOpen, t.cnt)) = some (0x00000214, false, ⟨0, 0, 0, 0, 0, 0⟩) := by decide
/-- Program 1, step 4. -/
theorem test_open_ok : (nextOf (step (State.withNext (.link (.openAnswer true)) opening))).map
    (fun t => (t.seq, t.portOpen, t.txf)) = some (.writing, true, request ++ le16 (Config.crc16 request)) := rfl
/-- V-T6. -/
theorem test_write_fail : (nextOf (step (State.withNext (.link (.writeAnswer false)) writing))).map
    (fun t => (t.status, t.portOpen, t.cnt)) = some (0x00000314, false, ⟨0, 0, 0, 0, 0, 0⟩) := by decide
/-- V-T7. -/
theorem test_write_ok : (nextOf (step (State.withNext (.link (.writeAnswer true)) writing))).map
    (fun t => (t.status, t.portOpen, t.rxb, t.cnt)) = some (0x0000000B, true, [], ⟨6, 0, 1, 0, 0, 0⟩) := by decide
/-- V-H10: TX_BYTES wraps. -/
theorem test_counter_wraps : (nextOf (step (State.withNext (.link (.writeAnswer true))
    { writing with cnt := { Counters.zero with txBytes := 0xFFFFFFFE } }))).map (fun t => t.cnt.txBytes) = some 4 := by decide
/-- V-T15. -/
theorem test_rx_overflow : (nextOf (step (State.withNext (.link (.byte 0xCC))
    { receiving with par := { receiving.par with rxCap := 2 }, rxb := [0xAA, 0xBB] }))).map (fun t => (t.refusal, t.rxb))
    = some (some .rxOverflow, [0xAA, 0xBB]) := by decide
/-- R137's example. -/
theorem test_rx_byte : (nextOf (step (State.withNext (.link (.byte 0x11)) { receiving with rxb := [0x05] }))).map
    (fun t => t.rxb) = some [0x05, 0x11] := by decide
/-- V-T10. -/
theorem test_gap_one_byte : (nextOf (step (State.withNext (.link .gap) { receiving with rxb := [0x05] }))).map
    (fun t => (t.status, t.resultData, t.cnt)) = some (0x00000514, [], ⟨6, 0, 1, 0, 1, 0⟩) := by decide
/-- V-T9, and V-T8 is the same with RXB empty. -/
theorem test_deadline : (nextOf (step (State.withNext (.link .deadline) { receiving with rxb := [0x05, 0x11, 0x10] }))).map
    (fun t => (t.status, t.rxb, t.cnt)) = some (0x00000414, [], ⟨6, 0, 1, 0, 0, 1⟩) := by decide
/-- V-R1 and V-R2: the reset in the receive phase, with a held host. -/
theorem test_reset : (nextOf (step (State.withNext .reset { receiving with rxb := [5, 0x11], held := [0] }))).map
    (fun t => (t.status, t.portOpen, t.rxb, t.cnt, t.held, t.replies))
    = some (0x00000000, false, [], ⟨0, 0, 0, 0, 0, 0⟩, [], [(0, .result 0x00000000 [])]) := rfl

/-- V-H5: the deadline step returns to the held host. -/
theorem test_finish_releases : (nextOf (step (State.withNext (.link .deadline) { receiving with held := [0] }))).map
    (fun t => (t.held, t.replies)) = some ([], [(0, .result 0x00000414 [])]) := rfl

/-! ## Witnesses: a state and operands that meet the hypotheses of each statement together -/

theorem witness_DecodeUndoesEncode :
    (Instr.getsizeErr 5 2 0x0010).WellFormed = true ∧ (Instr.putbufBErr 5 0xF 0x0010 0xFFFF).WellFormed = true := by decide

theorem witness_DecodedInstructionsReencode :
    decode (.frame [5, 0xF1, 0x10, 0]) = .ok (.getsizeErr 5 0xF 0x0010) ∧ decode (.hop { op := 0x17 }) = .ok (.stat 7) := by
  decide

/-- Each length clause, at its smallest frame. -/
theorem witness_FrameClassesAndLengths :
    (decode (.frame [5, 0x11, 0x10, 0])).instr?.isSome = true
    ∧ (decode (.frame [5, 0x12, 0x10, 0, 0, 0])).instr?.isSome = true
    ∧ (decode (.frame [5, 0x04, 0x10, 0, 0, 0])).instr?.isSome = true
    ∧ (decode (.frame [5, 0x24, 0x10, 0, 0, 0])).instr?.isSome = true
    ∧ (decode (.frame [5, 0x05, 0x10, 0])).instr?.isSome = true
    ∧ (decode (.frame [5, 0x05, 0x10, 0, 0])).instr? = none := by decide

/-- The STAT clause at its ends; the other clauses name one opcode each, and the decoding tests meet them. -/
theorem witness_HostOpcodesDecodeToTheirOperations :
    (HostCall.mk 0x10 ⟨0⟩ 0 0 [] default 0).op.toNat = 16 + (0 : BitVec 3).toNat
    ∧ (HostCall.mk 0x17 ⟨0⟩ 0 0 [] default 0).op.toNat = 16 + (7 : BitVec 3).toNat := by decide

/-- Opcodes 0x00, 0x04 and 0xFF (V-H12), and 0x16. -/
theorem witness_UndefinedHostOpcodesAreRefused :
    (∀ op : Byte, op ∈ [0x00, 0x04, 0xFF, 0x18] → op.toNat ∉ [1, 2, 3, 16, 17, 18, 19, 20, 21, 22, 23, 32, 64, 65, 66, 67, 68, 69])
    ∧ (State.withNext (.host 0 (.hop { op := 0xFF })) State.reset).env = .host 0 (.hop { op := 0xFF }) :: []
    ∧ 0 ≤ State.reset.par.extraHosts ∧ 0 ∉ State.reset.held
    ∧ ({ op := 0x16 } : HostCall).op = 0x16 ∧ ({ op := 0x17 } : HostCall).op = 0x17 := by decide

/-- Host 1 of a block with two hosts, the other one held. -/
theorem witness_StepRunsDecodedInstruction :
    let s : State := { State.twoHosts receiving with held := [0], env := [.host 1 (.hop { op := 0x02 })] }
    s.env = .host 1 (.hop { op := 0x02 }) :: [] ∧ 1 ≤ s.par.extraHosts ∧ 1 ∉ s.held
    ∧ decode (.hop { op := 0x02 }) = .ok .poll := by decide

/-- No byte, a header cut short, a reserved code with a byte too many, a GETBUF_B without its size. -/
theorem witness_RejectedFrameGetsParseError :
    decode (.frame []) = .reject .frameTooShort ∧ decode (.frame [5, 1, 0x10]) = .reject .frameTooShort
    ∧ decode (.frame [1, 3, 0, 0, 1]) = .reject .badFrameLength ∧ decode (.frame [1, 2, 0x34, 0x12, 8]) = .reject .badFrameLength
    ∧ 0 ≤ State.reset.par.extraHosts ∧ 0 ∉ State.reset.held := by decide

theorem witness_ResetLeavesTheTableValues : (State.withNext .reset receiving).env = .reset :: [] := by decide

theorem witness_ResetAbortsAndReleasesHolds :
    let s : State := { State.withNext .reset receiving with held := [0, 1] }
    s.env = .reset :: [] ∧ s.held ≠ [] := by decide

/-- A busy state of a run meets the seven invariants, and takes a step. -/
theorem receiving_sequencerInv : (State.withNext (.link .deadline) receiving).SequencerInv where
  port_open := by decide
  rxb_empty := by decide
  idle_none := by decide
  busy_none := by decide
  done_some := by decide
  data_ok := by decide
  frame_written := fun _ => rfl

theorem receiving_capacityInv : (State.withNext (.link .deadline) receiving).CapacityInv where
  cfg_present := by decide
  req_cap := by decide
  rxb_cap := by decide
  txf_length := by decide
  tx_bytes := by decide
  rx_bytes := by decide
  tx_packets := by decide
  rx_packets := by decide
  crc_errors := by decide
  time_outs := by decide
  held_busy := by decide
  held_once := by decide

theorem witness_StepKeepsSequencerInvariant :
    ∃ t, (State.withNext (.link .deadline) receiving).SequencerInv
      ∧ step (State.withNext (.link .deadline) receiving) = .next t := ⟨_, receiving_sequencerInv, rfl⟩

theorem witness_StepKeepsCapacities :
    ∃ t, (State.withNext (.link .deadline) receiving).CapacityInv
      ∧ step (State.withNext (.link .deadline) receiving) = .next t := ⟨_, receiving_capacityInv, rfl⟩

theorem witness_StepKeepsRefusedMarkAndParameters :
    ∃ t, step (State.withNext .reset { receiving with refusal := some .rxOverflow }) = .next t
      ∧ State.refusedMark { receiving with refusal := some .rxOverflow } = true := ⟨_, rfl, rfl⟩

/-- Each of the three ways SEQ moves. -/
theorem witness_OnlyTransactionSequencerAndResetMoveSeq :
    (∃ t, step (State.withNext .reset receiving) = .next t ∧ t.seq ≠ receiving.seq)
    ∧ (∃ t, step (State.withNext (.link (.openAnswer true)) opening) = .next t ∧ t.seq ≠ opening.seq)
    ∧ ∃ t, step (State.withNext (.host 0 (.hop { op := 0x01 })) timedOut) = .next t ∧ t.seq ≠ timedOut.seq :=
  ⟨⟨_, rfl, by decide⟩, ⟨_, rfl, by decide⟩, ⟨_, rfl, by decide⟩⟩

/-- A frame of a payload and its trailer passes CHECK. -/
theorem frameOf_good (payload : List Byte) :
    2 ≤ (frameOf payload).length
    ∧ ((frameOf payload).getD ((frameOf payload).length - 2) 0).toNat
        + 256 * ((frameOf payload).getD ((frameOf payload).length - 1) 0).toNat
      = (Config.crc16 ((frameOf payload).take ((frameOf payload).length - 2))).toNat := by
  have hs : (frameOf payload).take ((frameOf payload).length - 2) = payload := by simp [frameOf]
  have h0 := le16_low_toNat (Config.crc16 payload)
  have h1 := le16_high_toNat (Config.crc16 payload)
  rw [hs]
  simp only [frameOf_length, Nat.le_add_left, true_and]
  simp [frameOf, le16] at h0 h1 ⊢
  omega

/-- A received frame that is good: the 2-byte frame of no payload (V-T13). -/
def receivedGood : State := { State.withNext (.link .gap) receiving with rxb := frameOf [] }

/-- Each row of the counters' table: WRITE-OK, a gap after a good frame, a gap after one byte, the deadline, STAT_RESET. -/
theorem witness_CountersMoveAsTheTableSays :
    (∃ t, step (State.withNext (.link (.writeAnswer true)) writing) = .next t ∧ t.cnt ≠ writing.cnt)
    ∧ (∃ t, step receivedGood = .next t)
    ∧ (∃ t, step (State.withNext (.link .gap) { receiving with rxb := [5] }) = .next t ∧ t.cnt ≠ receiving.cnt)
    ∧ (∃ t, step (State.withNext (.link .deadline) receiving) = .next t ∧ t.cnt ≠ receiving.cnt)
    ∧ ∃ t, step (State.withNext (.host 0 (.hop { op := 0x20 })) receiving) = .next t ∧ t.cnt ≠ receiving.cnt :=
  ⟨⟨_, rfl, by decide⟩, ⟨_, rfl⟩, ⟨_, rfl, by decide⟩, ⟨_, rfl, by decide⟩, ⟨_, rfl, by decide⟩⟩

theorem witness_DoneSignalMovesOnlyAtFinishTransactionAndReset :
    (∃ t, step (State.withNext (.link .deadline) receiving) = .next t
      ∧ receiving.doneSignal = false ∧ t.doneSignal = true)
    ∧ (∃ t, step (State.withNext .reset timedOut) = .next t ∧ timedOut.doneSignal = true ∧ t.doneSignal = false)
    ∧ ∃ t, step (State.withNext (.host 0 (.hop { op := 0x01 })) timedOut) = .next t
        ∧ timedOut.doneSignal = true ∧ t.doneSignal = false :=
  ⟨⟨_, rfl, by decide⟩, ⟨_, rfl, by decide⟩, ⟨_, rfl, by decide⟩⟩

/-- In RECV and outside it. -/
theorem witness_StepKeepsPacketBalance :
    (State.withNext (.link .deadline) receiving).PacketBalance
    ∧ (∃ t, step (State.withNext (.link .deadline) receiving) = .next t)
    ∧ (¬ ∃ h c, (State.withNext (.link .deadline) receiving).nextEvent.1 = .host h c ∧ decode c = .ok .statReset
        ∧ receiving.seq = .receiving)
    ∧ timedOut.PacketBalance := by
  refine ⟨rfl, ⟨_, rfl⟩, ?_, rfl⟩
  rintro ⟨_, _, h, _⟩
  cases h

theorem witness_CountersNeverDecreaseBeforeWrap :
    let s : State := State.withNext (.link .deadline) receiving
    (∃ t, step s = .next t) ∧ s.nextEvent.1 ≠ .reset
    ∧ (¬ ∃ h c, s.nextEvent.1 = .host h c ∧ decode c = .ok .statReset)
    ∧ s.cnt.txBytes + s.txf.length < 2 ^ s.par.wCnt ∧ s.cnt.rxBytes + s.rxb.length < 2 ^ s.par.wCnt
    ∧ s.cnt.txPackets + 1 < 2 ^ s.par.wCnt ∧ s.cnt.rxPackets + 1 < 2 ^ s.par.wCnt
    ∧ s.cnt.crcErrors + 1 < 2 ^ s.par.wCnt ∧ s.cnt.timeouts + 1 < 2 ^ s.par.wCnt := by
  refine ⟨⟨_, rfl⟩, by decide, ?_, by decide, by decide, by decide, by decide, by decide, by decide⟩
  rintro ⟨_, _, h, _⟩
  cases h

/-- With REQ_CAP 4: five bytes, four bytes while busy, four bytes in IDLE and in DONE. -/
theorem witness_TransactionRequest :
    let cap4 (s : State) : State := { s with par := { s.par with reqCap := 4 } }
    (cap4 State.reset).par.reqCap < [1, 2, 3, 4, 5].length
    ∧ request.length ≤ (cap4 receiving).par.reqCap ∧ (cap4 receiving).seq = .receiving
    ∧ (cap4 opening).seq = .opening ∧ (cap4 writing).seq = .writing
    ∧ request.length ≤ (cap4 State.reset).par.reqCap ∧ (cap4 State.reset).seq = .idle ∧ (cap4 timedOut).seq = .done := by decide

/-- Hosts 0 and 1 of a block with two hosts, after reset. -/
theorem witness_FirstOfTwoTransactionsClaimsTheSlot :
    let s : State := State.twoHosts State.reset
    decode (.hop { op := 0x01, bytes := request }) = .ok (.txn ⟨0⟩ 0 0 request)
    ∧ 0 ≤ s.par.extraHosts ∧ 1 ≤ s.par.extraHosts ∧ 0 ∉ s.held ∧ 1 ∉ s.held
    ∧ request.length ≤ s.par.reqCap ∧ s.seq = .idle := by decide

theorem witness_PollReturnsStatusAndResult :
    State.reset.SequencerInv ∧ State.reset.seq = .idle
    ∧ (State.withNext (.link .deadline) receiving).SequencerInv
    ∧ (State.withNext (.link .deadline) receiving).seq = .receiving :=
  ⟨⟨by decide, by decide, by decide, by decide, by decide, by decide, by decide⟩, rfl, receiving_sequencerInv, rfl⟩

theorem witness_WaitReturnsWhenFreeAndHoldsWhenBusy :
    State.reset.seq = .idle ∧ timedOut.seq = .done ∧ opening.seq = .opening ∧ writing.seq = .writing
    ∧ receiving.seq = .receiving := by decide

/-- Hosts 0 and 1 are held in RECV, and the deadline ends their hold (V-H5); so does a reset (V-R2). -/
theorem witness_HoldIsLiftedExactlyByFinishAndReset :
    let s (e : Event) : State := { State.withNext e (State.twoHosts receiving) with held := [0, 1] }
    (∃ t, step (s (.link .deadline)) = .next t ∧ (s (.link .deadline)).seq ≠ .done ∧ t.seq = .done
      ∧ 0 ∈ (s (.link .deadline)).held ∧ 0 ∉ t.held)
    ∧ ∃ t, step (s .reset) = .next t ∧ 0 ∈ (s .reset).held ∧ 0 ∉ t.held :=
  ⟨⟨_, rfl, by decide⟩, ⟨_, rfl, by decide⟩⟩

/-- A held host, and host 1 of a block with one host. -/
theorem witness_HostThatMayNotIssueHasNoStep :
    0 ∈ ({ State.reset with held := [0] } : State).held ∧ State.reset.par.extraHosts < 1 := by decide

/-- Indexes 0 and 5, and 6 and 7. -/
theorem witness_StatReadsTheIndexedCounter :
    let counters (s : State) : List (Nat × Nat) := [(0, s.cnt.txBytes), (1, s.cnt.rxBytes), (2, s.cnt.txPackets),
      (3, s.cnt.rxPackets), (4, s.cnt.crcErrors), (5, s.cnt.timeouts)]
    ((0 : BitVec 3).toNat, 6) ∈ counters receiving ∧ ((5 : BitVec 3).toNat, 1) ∈ counters timedOut
    ∧ 5 < (6 : BitVec 3).toNat ∧ 5 < (7 : BitVec 3).toNat := by decide

theorem witness_StatResetZeroesAllCounters : (0 : BitVec 3).toNat ≤ 5 ∧ (5 : BitVec 3).toNat ≤ 5 := by decide

/-- V-P18: the shortest GETBUF_B.OK; and a PUTBUF_B request with one byte of data. -/
theorem witness_ParsedPacketsSerializeBack :
    ((⟨1, 0x04, 0, 1, [0xAA]⟩ : Packet).cmd = 0x04 ∧ (⟨1, 0x04, 0, 1, [0xAA]⟩ : Packet).data ≠ [])
    ∧ exec (.parse [1, 0x12, 0x34, 0x12, 0, 0]) State.reset
      = .next { State.reset with replies := (State.reset.caller, .parsed (.ok ⟨1, 0x12, 0x1234, 0, []⟩)) :: State.reset.replies } :=
  ⟨by decide, rfl⟩

theorem witness_VariablesReadLittleEndianWords :
    [1, 2, 3, 4, 5, 6].length % 4 ≠ 0 ∧ [1, 2, 3, 4, 5, 6, 7, 8].length % 4 = 0 ∧ 1 < [1, 2, 3, 4, 5, 6, 7, 8].length / 4 := by
  decide

/-- A word for each clause, at the ends of its exponents and fractions. -/
theorem witness_WordsReadAsBinary32 :
    ((0x7F800000 : Word32).toNat / 2 ^ 23 % 256 = 255 ∧ (0x7F800000 : Word32).toNat % 2 ^ 23 = 0)
    ∧ ((0xFFFFFFFF : Word32).toNat / 2 ^ 23 % 256 = 255 ∧ (0xFFFFFFFF : Word32).toNat % 2 ^ 23 ≠ 0)
    ∧ ((0x80000000 : Word32).toNat / 2 ^ 23 % 256 = 0 ∧ (0x80000000 : Word32).toNat % 2 ^ 23 = 0)
    ∧ ((0x00000001 : Word32).toNat / 2 ^ 23 % 256 = 0 ∧ (0x00000001 : Word32).toNat % 2 ^ 23 ≠ 0)
    ∧ ((0x00800000 : Word32).toNat / 2 ^ 23 % 256 = 1 ∧ (0x7F7FFFFF : Word32).toNat / 2 ^ 23 % 256 = 254) := by decide

theorem witness_CodecIsPureAndTouchesNoBlockState :
    (Instr.getbuf 1 0 0).isFrame = true ∧ (∃ p, Instr.serialize ⟨1, 2, 3, 4, []⟩ = .serialize p)
    ∧ (∃ f, Instr.parse [] = .parse f) ∧ (∃ w, Instr.asF32 0 = .asF32 w) := ⟨rfl, ⟨_, rfl⟩, ⟨_, rfl⟩, ⟨_, rfl⟩⟩

/-- The smallest result code of an error class, for GETSIZE, GETBUF_B and PUTBUF_B alike. -/
theorem witness_GetsizeFrames : 2 ≤ (2 : Nibble).toNat ∧ 2 ≤ (0xF : Nibble).toNat := by decide
theorem witness_GetbufBFrames : 2 ≤ (2 : Nibble).toNat ∧ 2 ≤ (0xF : Nibble).toNat := by decide
theorem witness_PutbufBFrames : 2 ≤ (2 : Nibble).toNat ∧ 2 ≤ (0xF : Nibble).toNat := by decide

theorem witness_OtherCodeFrames :
    (⟨1, 0x13, 0, 5, [1]⟩ : Packet).cmd.toNat % 16 ∉ [1, 2, 4]
    ∧ 4 ≤ [0x01, 0x0F, 0x00, 0x00].length ∧ (([0x01, 0x0F, 0x00, 0x00] : List Byte).getD 1 0).toNat % 16 ∉ [1, 2, 4] := by decide

/-- One parsable frame, and an instruction whose frame is not. -/
theorem witness_ParseAcceptsExactlyParsableFrames :
    (Instr.getsizeOk 5 0x10 [4, 0, 0, 0]).WellFormed = true
    ∧ encode (.getsizeOk 5 0x10 [4, 0, 0, 0]) = .frame [5, 0x11, 0x10, 0, 4, 0, 0, 0]
    ∧ (Instr.getsizeOk 5 0x10 [4, 0, 0, 0]).parsableFrame = true
    ∧ (Instr.getsizeOk 5 0x10 [4, 0, 0]).parsableFrame = false := by decide

/-- V-K3 and V-K2. -/
theorem witness_CrcFramerAgrees : ([0x05] : List Byte).length < 2 ∧ 2 ≤ (frameOf []).length := by decide

theorem witness_OpenStep :
    opening.seq = .opening
    ∧ (State.withNext (.link (.openAnswer false)) opening).env = .link (.openAnswer false) :: []
    ∧ (State.withNext (.link (.openAnswer true)) opening).env = .link (.openAnswer true) :: [] := by decide

theorem witness_WriteStep :
    writing.seq = .writing
    ∧ (State.withNext (.link (.writeAnswer false)) writing).env = .link (.writeAnswer false) :: []
    ∧ (State.withNext (.link (.writeAnswer true)) writing).env = .link (.writeAnswer true) :: [] := by decide

/-- With RX_CAP 2: one byte held, then two. -/
theorem witness_RxByteStep :
    let s (bytes : List Byte) : State :=
      { State.withNext (.link (.byte 0xCC)) receiving with par := { receiving.par with rxCap := 2 }, rxb := bytes }
    (s [0xAA]).seq = .receiving ∧ (s [0xAA]).env = .link (.byte 0xCC) :: [] ∧ (s [0xAA]).rxb.length ≠ (s [0xAA]).par.rxCap
    ∧ (s [0xAA, 0xBB]).rxb.length = (s [0xAA, 0xBB]).par.rxCap := by decide

/-- A good frame of no payload, and a frame of one byte, which has no trailer. -/
theorem witness_RxGapStep :
    (receivedGood.seq = .receiving ∧ receivedGood.rxb ≠ [] ∧ receivedGood.env = .link .gap :: []
      ∧ 2 ≤ receivedGood.rxb.length
      ∧ (receivedGood.rxb.getD (receivedGood.rxb.length - 2) 0).toNat
          + 256 * (receivedGood.rxb.getD (receivedGood.rxb.length - 1) 0).toNat
        = (Config.crc16 (receivedGood.rxb.take (receivedGood.rxb.length - 2))).toNat)
    ∧ ([0x05] : List Byte) ≠ [] ∧ ¬ 2 ≤ ([0x05] : List Byte).length :=
  ⟨⟨rfl, by simp [receivedGood, frameOf, le16], rfl, frameOf_good []⟩, by decide, by decide⟩

theorem witness_RxDeadlineStep :
    receiving.seq = .receiving ∧ (State.withNext (.link .deadline) receiving).env = .link .deadline :: [] := by decide

/-- A state and a draw for each clause; the last is V-T16. -/
theorem witness_DrawsNotEnabledDoNothing :
    State.reset.seq = .idle ∧ timedOut.seq = .done
    ∧ (opening.seq = .opening ∧ ∀ ok, LinkEvent.gap ≠ .openAnswer ok)
    ∧ (writing.seq = .writing ∧ ∀ ok, LinkEvent.openAnswer true ≠ .writeAnswer ok)
    ∧ (receiving.seq = .receiving ∧ (∃ ok, LinkEvent.writeAnswer true = .openAnswer ok ∨ LinkEvent.writeAnswer true = .writeAnswer ok))
    ∧ (receiving.seq = .receiving ∧ receiving.rxb = []) := by decide

theorem witness_BusySequencerHasStep :
    opening.seq = .opening ∧ writing.seq = .writing ∧ receiving.seq = .receiving := by decide

theorem witness_FinishIsPrecise :
    ∃ t, step (State.withNext (.link .deadline) receiving) = .next t ∧ receiving.seq ≠ .done ∧ t.seq = .done
      ∧ t.resultKind ≠ .ok := ⟨_, rfl, by decide⟩

/-- With RX_CAP just large enough. -/
theorem witness_SuccessfulTransactionDeliversPayload :
    let payload : List Byte := [0x05, 0x11]
    let s : State := { opening with
      par := { opening.par with rxCap := 4 }
      env := .link (.openAnswer true) :: .link (.writeAnswer true)
        :: ((frameOf payload).map (fun b => Event.link (.byte b)) ++ .link .gap :: []) }
    s.seq = .opening ∧ payload.length + 2 ≤ s.par.rxCap
    ∧ s.env = .link (.openAnswer true) :: .link (.writeAnswer true)
        :: ((frameOf payload).map (fun b => Event.link (.byte b)) ++ .link .gap :: []) := ⟨rfl, by decide, rfl⟩

theorem witness_TransactionEndsWithinItsSteps :
    let s (opened written : Bool) : State := { opening with
      env := .link (.openAnswer opened) :: .link (.writeAnswer written)
        :: ([].map (fun b => Event.link (.byte b)) ++ .link .deadline :: []) }
    ∀ opened written, (s opened written).seq = .opening
      ∧ (s opened written).env = .link (.openAnswer opened) :: .link (.writeAnswer written)
        :: ([].map (fun b => Event.link (.byte b)) ++ .link .deadline :: []) := fun _ _ => ⟨rfl, rfl⟩

/-- The link grants the open and the write and then signals the deadline for ever (V-T8). -/
def fairSchedule (n : Nat) : Event :=
  match n with
  | 0 => .link (.openAnswer true)
  | 1 => .link (.writeAnswer true)
  | _ + 2 => .link .deadline

theorem fair_run_stays_done (n : Nat) : (runOf fairSchedule opening (n + 3)).seq = .done := by
  induction n with
  | zero => rfl
  | succ n ih =>
    have h : (runOf fairSchedule opening (n + 3)).enables .deadline = false := by simp [State.enables, ih]
    show ((runOf fairSchedule opening (n + 3)).seqStep .deadline).seq = .done
    rw [seqStep_of_not_enabled h, ih]

theorem fair_run_is_weaklyFair : WeaklyFair fairSchedule (runOf fairSchedule opening) where
  sequencer := fun n h => by
    have h1 := h (n + 3) (by omega)
    simp [State.busy, SeqState.busy, fair_run_stays_done n] at h1
  deadline := fun n _ => ⟨n + 2, by omega, rfl⟩

theorem witness_WeaklyFairRunsEndTransactions :
    IsRun fairSchedule (runOf fairSchedule opening) ∧ WeaklyFair fairSchedule (runOf fairSchedule opening)
    ∧ (runOf fairSchedule opening 0).busy = true :=
  ⟨runOf_isRun _ _, fair_run_is_weaklyFair, by decide⟩

theorem witness_SequencerStepsOfTransactionAreBounded :
    IsRun fairSchedule (runOf fairSchedule opening) ∧ (runOf fairSchedule opening 0).seq = .opening
    ∧ ∀ j, j < 3 → (runOf fairSchedule opening (0 + j)).busy = true :=
  ⟨runOf_isRun _ _, rfl, by decide⟩

/-- A state at its end, and one where a free sequencer is not enough, since REFUSED is 1. -/
theorem witness_RunEndsFreeUnheldAndUnrefused :
    timedOut.atEnd = true ∧ State.refusedMark { timedOut with refusal := some .rxOverflow } = true
    ∧ (∃ t : State, Host.Core.run core 1 (State.withNext .reset { timedOut with refusal := some .rxOverflow }) = .next t)
    ∧ State.atEnd { timedOut with refusal := some .rxOverflow } = false := ⟨by decide, by decide, ⟨_, rfl⟩, by decide⟩

end Sys2Proof.Tests
end

section
/-! PROOF. The hosts that may not issue (R16, R197, log entry 5), and O28. -/

namespace Sys2Proof.Machine

/-- Only a hold, or an index that is no host of the block, keeps a host from issuing. -/
theorem mayIssue_eq_false_iff {s : State} {h : Nat} :
    s.mayIssue h = false ↔ h ∈ s.held ∨ s.par.extraHosts < h := by
  rw [State.mayIssue, decide_eq_false_iff_not, Decidable.not_and_iff_not_or_not, Nat.not_le, Decidable.not_not, or_comm]

theorem runEvent_host_of_not_mayIssue {s : State} {h : Nat} (barred : s.mayIssue h = false) (c : Code) :
    runEvent (.host h c) s = .next s := by
  simp [runEvent, barred]

/-- Settles O28: the step runs the host's event on the state without it (`step_cons`), where the host is barred as it was
before, since taking an event changes no hold and no parameter. -/
theorem hostThatMayNotIssueHasNoStep : Obligations.HostThatMayNotIssueHasNoStep := by
  intro s h c rest listed barred
  have stillBarred : State.mayIssue h { s with env := rest } = false := mayIssue_eq_false_iff.mpr barred
  rw [step_cons listed, runEvent_host_of_not_mayIssue stillBarred]

end Sys2Proof.Machine
end

section
/-! PROOF. Invariants of a step, packaged once: what a property has to survive so that every step keeps it. -/

namespace Sys2Proof.Machine

/-- A property of states that each named operation of the block keeps, where a step uses it: `StepInvariant.step` says that
every step then keeps it. `records` is for the fields that only record or schedule (log entries 4 and 11). -/
structure StepInvariant (P : State → Prop) : Prop where
  records : ∀ s caller replies requests env tick, P s →
    P { s with caller := caller, replies := replies, requests := requests, env := env, tick := tick }
  refuse : ∀ s why, P s → P (s.refuse why)
  accept : ∀ s cfg req, req.length ≤ s.par.reqCap → s.busy = false → P s → P (s.accept cfg req)
  hold : ∀ s, s.busy = true → P s → P s.hold
  zeroCounters : ∀ s, P s → P { s with cnt := Counters.zero }
  openFail : ∀ s, s.seq = .opening → P s → P s.openFail
  openOk : ∀ s, s.seq = .opening → P s → P s.openOk
  writeFail : ∀ s, s.seq = .writing → P s → P s.writeFail
  writeOk : ∀ s, s.seq = .writing → P s → P s.writeOk
  rxByte : ∀ s b, s.seq = .receiving → s.rxb.length ≠ s.par.rxCap → P s → P { s with rxb := s.rxb ++ [b] }
  rxGapBad : ∀ s, s.seq = .receiving → P s → P s.rxGapBad
  rxGapOk : ∀ s, s.seq = .receiving → P s → P s.rxGapOk
  rxDeadline : ∀ s, s.seq = .receiving → P s → P s.rxDeadline
  resetBlock : ∀ s, P s → P s.resetBlock

section
variable {P : State → Prop} (inv : StepInvariant P)
include inv

theorem StepInvariant.reply {s : State} (r : Reply) (hs : P s) : P (s.reply r) :=
  inv.records s s.caller ((s.caller, r) :: s.replies) s.requests s.env s.tick hs

theorem StepInvariant.hostMove {i : Instr} {s t : State} (move : HostMove i s t) (hs : P s) : P t := by
  cases move with
  | returned => exact inv.reply _ hs
  | refused => exact inv.refuse _ _ hs
  | accepted _ _ _ _ _ fits free => exact inv.reply _ (inv.accept _ _ _ fits free hs)
  | heldInWait _ busy => exact inv.hold _ busy hs
  | zeroed => exact inv.reply _ (inv.zeroCounters _ hs)

theorem StepInvariant.onReject {s : State} (c : Code) (hs : P s) : P (s.onReject c) := by
  cases c with
  | hop => exact inv.refuse _ _ hs
  | frame => exact inv.reply _ hs

theorem StepInvariant.seqMove {d : LinkEvent} {s t : State} (move : SeqMove d s t) (hs : P s) : P t := by
  cases move with
  | notEnabled => exact hs
  | openFail _ at_ => exact inv.openFail _ at_ hs
  | openOk _ at_ => exact inv.openOk _ at_ hs
  | writeFail _ at_ => exact inv.writeFail _ at_ hs
  | writeOk _ at_ => exact inv.writeOk _ at_ hs
  | rxByte _ b at_ room => exact inv.rxByte _ b at_ room hs
  | rxOverflow => exact inv.refuse _ _ hs
  | gapBad _ at_ => exact inv.rxGapBad _ at_ hs
  | gapOk _ at_ => exact inv.rxGapOk _ at_ hs
  | deadline _ at_ => exact inv.rxDeadline _ at_ hs

theorem StepInvariant.move {e : Event} {s t : State} (move : Move e s t) (hs : P s) : P t := by
  cases move with
  | noStep => exact hs
  | executed h _ _ _ _ _ _ hm => exact inv.hostMove hm (inv.records s h s.replies s.requests s.env s.tick hs)
  | rejected h => exact inv.onReject _ (inv.records s h s.replies s.requests s.env s.tick hs)
  | sequencer _ _ _ hm => exact inv.seqMove hm hs
  | reset => exact inv.resetBlock _ hs

theorem StepInvariant.step {s t : State} (taken : Machine.step s = .next t) (hs : P s) : P t := by
  obtain ⟨env, tick, move⟩ := (takes_of_step taken).move
  exact inv.move move (inv.records s s.caller s.replies s.requests env tick hs)

end

end Sys2Proof.Machine
end

section
/-! PROOF. The seven invariants of R37 at reset and under every step: O12 and O11. -/

namespace Sys2Proof.Machine

/-- A cleared block (R38) meets the seven invariants, whatever it held before. -/
theorem State.sequencerInv_resetBlock (s : State) : s.resetBlock.SequencerInv where
  port_open := by simp
  rxb_empty := fun _ => rfl
  idle_none := fun _ => ⟨rfl, rfl⟩
  busy_none := fun _ => ⟨rfl, rfl⟩
  done_some := by simp
  data_ok := by simp
  frame_written := by simp

/-- `finish` establishes the seven invariants from any state, when it stores a result kind and data only with OK. -/
theorem State.sequencerInv_finish (s : State) {k : ResultKind} {payload : List Byte} (some_ : k ≠ .none)
    (dataOk : payload ≠ [] → k = .ok) : (s.finish k payload).SequencerInv where
  port_open := by simp
  rxb_empty := fun _ => rfl
  idle_none := by simp
  busy_none := by simp [State.busy, SeqState.busy]
  done_some := fun _ => some_
  data_ok := dataOk
  frame_written := by simp

/-- An accepted TXN comes to OPEN with the port closed, since the sequencer was free. -/
theorem State.SequencerInv.accept {s : State} (inv : s.SequencerInv) (free : s.busy = false) (cfg : PortConfig)
    (req : List Byte) : (s.accept cfg req).SequencerInv where
  port_open := by
    rcases s.busy_eq_false.1 free with h | h <;> simp [inv.port_open, h]
  rxb_empty := fun _ => rfl
  idle_none := by simp
  busy_none := fun _ => ⟨rfl, rfl⟩
  done_some := by simp
  data_ok := by simp
  frame_written := by simp

theorem State.SequencerInv.openOk {s : State} (inv : s.SequencerInv) (at_ : s.seq = .opening) : s.openOk.SequencerInv where
  port_open := by simp
  rxb_empty := fun _ => inv.rxb_empty (by simp [at_])
  idle_none := by simp
  busy_none := fun _ => inv.busy_none (s.busy_eq_true.2 (.inl at_))
  done_some := by simp
  data_ok := inv.data_ok
  frame_written := fun _ => rfl

theorem State.SequencerInv.writeOk {s : State} (inv : s.SequencerInv) (at_ : s.seq = .writing) :
    s.writeOk.SequencerInv where
  port_open := by simp [inv.port_open, at_]
  rxb_empty := fun _ => rfl
  idle_none := by simp
  busy_none := fun _ => inv.busy_none (s.busy_eq_true.2 (.inr (.inl at_)))
  done_some := by simp
  data_ok := inv.data_ok
  frame_written := fun _ => inv.frame_written (.inl at_)

theorem sequencerInv_stepInvariant : StepInvariant State.SequencerInv where
  records _ _ _ _ _ _ inv := { inv with }
  refuse _ _ inv := { inv with }
  accept _ cfg req _ free inv := inv.accept free cfg req
  hold _ _ inv := { inv with }
  zeroCounters _ inv := { inv with }
  openFail _ _ _ := State.sequencerInv_finish _ (by decide) (by simp)
  openOk _ at_ inv := inv.openOk at_
  writeFail _ _ _ := State.sequencerInv_finish _ (by decide) (by simp)
  writeOk _ at_ inv := inv.writeOk at_
  rxByte _ _ at_ _ inv := { inv with rxb_empty := fun outside => absurd at_ outside }
  rxGapBad _ _ _ := State.sequencerInv_finish _ (by decide) (by simp)
  rxGapOk _ _ _ := State.sequencerInv_finish _ (by decide) fun _ => rfl
  rxDeadline _ _ _ := State.sequencerInv_finish _ (by decide) (by simp)
  resetBlock s _ := s.sequencerInv_resetBlock

/-- Settles O12: the reset state is what a reset makes of itself. -/
theorem resetMeetsSequencerInvariant : Obligations.ResetMeetsSequencerInvariant :=
  State.reset.sequencerInv_resetBlock

/-- Settles O11: the invariants survive each operation a step uses (`sequencerInv_stepInvariant`). -/
theorem stepKeepsSequencerInvariant : Obligations.StepKeepsSequencerInvariant := fun _ _ inv taken =>
  sequencerInv_stepInvariant.step taken inv

end Sys2Proof.Machine
end

section
/-! PROOF. The lengths, widths and holds of R24 to R27, R34 and R161 at reset and under every step: O14 and O13. -/

namespace Sys2Proof.Machine

theorem State.capacityInv_resetBlock (s : State) : s.resetBlock.CapacityInv where
  cfg_present := by simp
  req_cap := Nat.zero_le _
  rxb_cap := Nat.zero_le _
  txf_length := .inl rfl
  tx_bytes := Nat.two_pow_pos _
  rx_bytes := Nat.two_pow_pos _
  tx_packets := Nat.two_pow_pos _
  rx_packets := Nat.two_pow_pos _
  crc_errors := Nat.two_pow_pos _
  time_outs := Nat.two_pow_pos _
  held_busy := by simp
  held_once := .nil

namespace State.CapacityInv
variable {s : State} (inv : s.CapacityInv)
include inv

/-- A busy sequencer has its configuration (R24). -/
theorem cfg_of_busy (busy : s.busy = true) : s.cfg ≠ none :=
  inv.cfg_present fun idle => by simp [State.busy, SeqState.busy, idle] at busy

theorem finish (busy : s.busy = true) (k : ResultKind) (payload : List Byte) : (s.finish k payload).CapacityInv :=
  { inv with
    cfg_present := fun _ => inv.cfg_of_busy busy
    rxb_cap := Nat.zero_le _
    held_busy := by simp
    held_once := .nil }

theorem countTx (n : Nat) : (s.countTx n).CapacityInv :=
  { inv with tx_bytes := wrapAdd_lt .., tx_packets := wrapAdd_lt .. }

theorem countRx (n : Nat) : (s.countRx n).CapacityInv :=
  { inv with rx_bytes := wrapAdd_lt .., rx_packets := wrapAdd_lt .. }

theorem countCrcError : s.countCrcError.CapacityInv := { inv with crc_errors := wrapAdd_lt .. }

theorem countTimeout : s.countTimeout.CapacityInv := { inv with time_outs := wrapAdd_lt .. }

theorem zeroCounters : State.CapacityInv { s with cnt := Counters.zero } :=
  { inv with
    tx_bytes := Nat.two_pow_pos _
    rx_bytes := Nat.two_pow_pos _
    tx_packets := Nat.two_pow_pos _
    rx_packets := Nat.two_pow_pos _
    crc_errors := Nat.two_pow_pos _
    time_outs := Nat.two_pow_pos _ }

theorem accept (cfg : PortConfig) {req : List Byte} (fits : req.length ≤ s.par.reqCap) :
    (s.accept cfg req).CapacityInv :=
  { inv with
    cfg_present := by simp
    req_cap := fits
    rxb_cap := Nat.zero_le _
    txf_length := .inl rfl
    held_busy := fun _ => rfl }

theorem hold (busy : s.busy = true) : s.hold.CapacityInv :=
  { inv with held_busy := fun _ => busy, held_once := inv.held_once.insert }

theorem openOk (at_ : s.seq = .opening) : s.openOk.CapacityInv :=
  { inv with
    cfg_present := fun _ => inv.cfg_of_busy (s.busy_eq_true.2 (.inl at_))
    txf_length := .inr (frameOf_length s.req)
    held_busy := fun _ => rfl }

theorem writeOk (at_ : s.seq = .writing) : s.writeOk.CapacityInv :=
  { inv.countTx s.txf.length with
    cfg_present := fun _ => inv.cfg_of_busy (s.busy_eq_true.2 (.inr (.inl at_)))
    rxb_cap := Nat.zero_le _
    held_busy := fun _ => rfl }

theorem rxByte (b : Byte) (room : s.rxb.length ≠ s.par.rxCap) : State.CapacityInv { s with rxb := s.rxb ++ [b] } :=
  { inv with
    rxb_cap := by
      have below : s.rxb.length < s.par.rxCap := Nat.lt_of_le_of_ne inv.rxb_cap room
      simpa using below }

end State.CapacityInv

theorem capacityInv_stepInvariant : StepInvariant State.CapacityInv where
  records _ _ _ _ _ _ inv := { inv with }
  refuse _ _ inv := { inv with }
  accept _ cfg _ fits _ inv := inv.accept cfg fits
  hold _ busy inv := inv.hold busy
  zeroCounters _ inv := inv.zeroCounters
  openFail s at_ inv := State.CapacityInv.finish (s := s.noteOpen false) { inv with } (s.busy_eq_true.2 (.inl at_)) _ _
  openOk _ at_ inv := inv.openOk at_
  writeFail s at_ inv :=
    State.CapacityInv.finish (s := s.noteWrite false) { inv with } (s.busy_eq_true.2 (.inr (.inl at_))) _ _
  writeOk _ at_ inv := inv.writeOk at_
  rxByte _ b _ room inv := inv.rxByte b room
  rxGapBad s at_ inv := inv.countCrcError.finish (s.busy_eq_true.2 (.inr (.inr at_))) _ _
  rxGapOk s at_ inv := (inv.countRx _).finish (s.busy_eq_true.2 (.inr (.inr at_))) _ _
  rxDeadline s at_ inv := inv.countTimeout.finish (s.busy_eq_true.2 (.inr (.inr at_))) _ _
  resetBlock s _ := s.capacityInv_resetBlock

/-- Settles O14: the reset state is what a reset makes of itself. -/
theorem resetMeetsCapacities : Obligations.ResetMeetsCapacities := State.reset.capacityInv_resetBlock

/-- Settles O13: the capacities survive each operation a step uses (`capacityInv_stepInvariant`). -/
theorem stepKeepsCapacities : Obligations.StepKeepsCapacities := fun _ _ inv taken =>
  capacityInv_stepInvariant.step taken inv

end Sys2Proof.Machine
end

section
/-! PROOF. REFUSED and the parameters (R33, R8): O16. -/

namespace Sys2Proof.Machine

/-- `t` has the parameters of `s`, and is marked REFUSED if `s` is: what no step undoes. -/
def State.MarkAndParametersKept (s t : State) : Prop :=
  t.par = s.par ∧ (s.refusedMark = true → t.refusedMark = true)

/-- No operation of the block writes a parameter, and `refuse`, the only one to write the mark, sets it. -/
theorem markAndParametersKept_stepInvariant (s : State) : StepInvariant s.MarkAndParametersKept where
  records _ _ _ _ _ _ kept := kept
  refuse _ _ kept := ⟨kept.1, fun _ => rfl⟩
  accept _ _ _ _ _ kept := kept
  hold _ _ kept := kept
  zeroCounters _ kept := kept
  openFail _ _ kept := kept
  openOk _ _ kept := kept
  writeFail _ _ kept := kept
  writeOk _ _ kept := kept
  rxByte _ _ _ _ kept := kept
  rxGapBad _ _ kept := kept
  rxGapOk _ _ kept := kept
  rxDeadline _ _ kept := kept
  resetBlock _ kept := kept

/-- Settles O16: `s` keeps its own mark and parameters, and each step goes on keeping them. -/
theorem stepKeepsRefusedMarkAndParameters : Obligations.StepKeepsRefusedMarkAndParameters := fun s _ taken =>
  (markAndParametersKept_stepInvariant s).step taken ⟨rfl, id⟩

end Sys2Proof.Machine
end

section
/-! PROOF. What moves SEQ (R22) and the counters (R34): O17 and O18. -/

namespace Sys2Proof.Machine

@[simp] theorem State.onReject_seq (c : Code) (s : State) : (s.onReject c).seq = s.seq := by cases c <;> rfl
@[simp] theorem State.onReject_cnt (c : Code) (s : State) : (s.onReject c).cnt = s.cnt := by cases c <;> rfl

/-! ## SEQ -/

/-- Of the host operations only an accepted TXN moves SEQ: from a free sequencer to OPEN (R130). -/
theorem HostMove.seq_moved {i : Instr} {s t : State} (move : HostMove i s t) (moved : t.seq ≠ s.seq) :
    (∃ port baud tmo req, i = .txn port baud tmo req) ∧ (s.seq = .idle ∨ s.seq = .done) ∧ t.seq = .opening := by
  cases move with
  | accepted _ port baud tmo req _ free => exact ⟨⟨port, baud, tmo, req, rfl⟩, s.busy_eq_false.1 free, rfl⟩
  | returned | refused | heldInWait | zeroed => exact absurd rfl moved

/-- A free sequencer has no step (R141). -/
theorem SeqMove.eq_or_busy {d : LinkEvent} {s t : State} (move : SeqMove d s t) :
    t = s ∨ s.seq = .opening ∨ s.seq = .writing ∨ s.seq = .receiving := by
  cases move with
  | notEnabled => exact .inl rfl
  | openFail _ at_ | openOk _ at_ => exact .inr (.inl at_)
  | writeFail _ at_ | writeOk _ at_ => exact .inr (.inr (.inl at_))
  | rxByte _ _ at_ | rxOverflow _ _ at_ | gapBad _ at_ | gapOk _ at_ | deadline _ at_ => exact .inr (.inr (.inr at_))

theorem Move.seq_moved {e : Event} {s t : State} (move : Move e s t) (moved : t.seq ≠ s.seq) :
    e = .reset
    ∨ (∃ d, e = .link d ∧ (s.seq = .opening ∨ s.seq = .writing ∨ s.seq = .receiving))
    ∨ ∃ h c port baud tmo req, e = .host h c ∧ decode c = .ok (.txn port baud tmo req)
        ∧ (s.seq = .idle ∨ s.seq = .done) ∧ t.seq = .opening := by
  cases move with
  | noStep => exact absurd rfl moved
  | executed h c i _ _ _ decoded hm =>
    obtain ⟨⟨port, baud, tmo, req, rfl⟩, free, opened⟩ := hm.seq_moved moved
    exact .inr (.inr ⟨h, c, port, baud, tmo, req, rfl, decoded, free, opened⟩)
  | rejected _ c => exact absurd (State.onReject_seq c _) moved
  | sequencer d _ _ hm =>
    rcases hm.eq_or_busy with rfl | busy
    · exact absurd rfl moved
    · exact .inr (.inl ⟨d, rfl, busy⟩)
  | reset => exact .inl rfl

/-- Settles O17: the step is a move of its event, from `s` with another schedule. -/
theorem onlyTransactionSequencerAndResetMoveSeq : Obligations.OnlyTransactionSequencerAndResetMoveSeq := by
  intro s t taken moved
  obtain ⟨env, tick, move⟩ := (takes_of_step taken).move
  exact move.seq_moved moved

/-! ## The counters -/

/-- The rows of the counters' table (R34), of any event `e` from `s` to `t`. -/
def CountersRow (e : Event) (s t : State) : Prop :=
  t.cnt = s.cnt
  ∨ (t.cnt = Counters.zero ∧ (e = .reset ∨ ∃ h c, e = .host h c ∧ decode c = .ok .statReset))
  ∨ (s.seq = .writing ∧ e = .link (.writeAnswer true) ∧ t.cnt = (s.countTx s.txf.length).cnt)
  ∨ (s.seq = .receiving ∧ e = .link .gap ∧ t.resultKind = .ok ∧ t.cnt = (s.countRx s.rxb.length).cnt)
  ∨ (s.seq = .receiving ∧ e = .link .gap ∧ t.resultKind = .crcError ∧ t.cnt = s.countCrcError.cnt)
  ∨ (s.seq = .receiving ∧ e = .link .deadline ∧ t.cnt = s.countTimeout.cnt)

/-- Of the host operations only STAT_RESET writes a counter (R163). -/
theorem HostMove.cnt_moved {i : Instr} {s t : State} (move : HostMove i s t) :
    t.cnt = s.cnt ∨ (i = .statReset ∧ t.cnt = Counters.zero) := by
  cases move with
  | zeroed => exact .inr ⟨rfl, rfl⟩
  | returned | refused | accepted | heldInWait => exact .inl rfl

theorem SeqMove.countersRow {d : LinkEvent} {s t : State} (move : SeqMove d s t) : CountersRow (.link d) s t := by
  cases move with
  | writeOk _ at_ => exact .inr (.inr (.inl ⟨at_, rfl, rfl⟩))
  | gapOk _ at_ => exact .inr (.inr (.inr (.inl ⟨at_, rfl, rfl, rfl⟩)))
  | gapBad _ at_ => exact .inr (.inr (.inr (.inr (.inl ⟨at_, rfl, rfl, rfl⟩))))
  | deadline _ at_ => exact .inr (.inr (.inr (.inr (.inr ⟨at_, rfl, rfl⟩))))
  | notEnabled | openFail | openOk | writeFail | rxByte | rxOverflow => exact .inl rfl

theorem Move.countersRow {e : Event} {s t : State} (move : Move e s t) : CountersRow e s t := by
  cases move with
  | noStep => exact .inl rfl
  | executed h c i _ _ _ decoded hm =>
    rcases hm.cnt_moved with same | ⟨rfl, zero⟩
    · exact .inl same
    · exact .inr (.inl ⟨zero, .inr ⟨h, c, rfl, decoded⟩⟩)
  | rejected _ c => exact .inl (State.onReject_cnt c _)
  | sequencer _ _ _ hm => exact hm.countersRow
  | reset => exact .inr (.inl ⟨rfl, .inl rfl⟩)

/-- Settles O18: the step is a move of its event, from `s` with another schedule, and the rows written with the model's
counting operations are the rows of the statement. -/
theorem countersMoveAsTheTableSays : Obligations.CountersMoveAsTheTableSays := by
  intro s t taken
  obtain ⟨env, tick, move⟩ := (takes_of_step taken).move
  exact move.countersRow

end Sys2Proof.Machine
end

section
/-! PROOF. The values of the reset table (R38) and the layout of STATUS (R31): O9 and O24. -/

namespace Sys2Proof.Machine

theorem statusWord_idle_none : statusWord .idle .none = 0 := by decide

/-- Whatever the block held, a reset leaves the values of the table (R210, R38). -/
theorem State.atResetValues_resetBlock (s : State) : s.resetBlock.AtResetValues where
  seq_idle := rfl
  cfg_absent := rfl
  req_empty := rfl
  txf_empty := rfl
  rxb_empty := rfl
  port_closed := rfl
  kind_none := rfl
  data_empty := rfl
  status_zero := statusWord_idle_none
  counters := rfl

/-- Settles O9: the reset state is what a reset makes of itself, and `resetBlock` leaves REFUSED alone. -/
theorem resetLeavesTheTableValues : Obligations.ResetLeavesTheTableValues := by
  refine ⟨State.reset.atResetValues_resetBlock, rfl, fun s rest listed => ?_⟩
  exact ⟨State.resetBlock { s with env := rest }, step_cons listed, State.atResetValues_resetBlock _, rfl⟩

/-- The low part of a concatenation counts its own value, the high part a multiple of the low part's size. -/
theorem toNat_append_eq_add {m n : Nat} (high : BitVec m) (low : BitVec n) :
    (high ++ low).toNat = low.toNat + 2 ^ n * high.toNat := by
  rw [BitVec.toNat_append, ← Nat.shiftLeft_add_eq_or_of_lt low.isLt, Nat.shiftLeft_eq, Nat.add_comm, Nat.mul_comm]

/-- STATUS is the sum of its fields at their places; the reserved bits add nothing (R31). -/
theorem statusWord_toNat (q : SeqState) (k : ResultKind) :
    (statusWord q k).toNat = q.code.toNat + 8 * q.busy.toNat + 16 * (q == .done).toNat + 256 * k.code.toNat := by
  simp only [statusWord, toNat_append_eq_add, BitVec.toNat_ofBool, BitVec.toNat_ofNat]
  ring

/-- Settles O24: the fields of the sum (`statusWord_toNat`) are the codes of SEQ with its two flags, and of RESULT_KIND. -/
theorem statusWordLayout : Obligations.StatusWordLayout := by
  refine ⟨statusWord_idle_none, fun s => ?_⟩
  rw [State.status, statusWord_toNat]
  congr 1
  · cases s.seq <;> rfl
  · cases s.resultKind <;> rfl

end Sys2Proof.Machine
end

section
/-! PROOF. What an event of the schedule runs (R59, R197), and two TXNs one after the other (R63, R131): O7 and O23. -/

namespace Sys2Proof.Machine

theorem execCode_of_decode {c : Code} {i : Instr} (decoded : decode c = .ok i) (s : State) : execCode c s = exec i s := by
  simp only [execCode, decoded]

theorem runEvent_host_of_mayIssue {s : State} {h : Nat} (mayIssue : s.mayIssue h = true) (c : Code) :
    runEvent (.host h c) s = execCode c { s with caller := h } :=
  if_pos mayIssue

/-- Settles O7: the listed event is what the step runs (`step_cons`), its host may issue as it might before the event was
taken, and its code stands for the decoded instruction. -/
theorem stepRunsDecodedInstruction : Obligations.StepRunsDecodedInstruction := by
  intro s h c i rest listed isHost free decoded
  have mayIssue : State.mayIssue h { s with env := rest } = true := mayIssue_of isHost free
  rw [step_cons listed, runEvent_host_of_mayIssue mayIssue, execCode_of_decode decoded]

section
variable {s : State} {h : Nat} {c : Code} {port : PortId} {baud tmo : Word32} {req : List Byte} {rest : List Event}
  (listed : s.env = .host h c :: rest) (decoded : decode c = .ok (.txn port baud tmo req)) (isHost : h ≤ s.par.extraHosts)
  (unheld : h ∉ s.held) (fits : req.length ≤ s.par.reqCap)
include listed decoded isHost unheld fits

/-- A free sequencer accepts the listed TXN (R130). -/
theorem step_txn_of_free (free : s.busy = false) : step s = .next
    (({ s with env := rest, caller := h }.accept ⟨port, baud, tmo⟩ req).reply (.status .stOk)) := by
  rw [stepRunsDecodedInstruction s h c _ rest listed isHost unheld decoded]
  exact (if_neg (Nat.not_lt.mpr fits)).trans (if_neg (ne_true_of_eq_false free))

/-- A busy sequencer answers the listed TXN with ST_BUSY and nothing else (R130, R190). -/
theorem step_txn_of_busy (busy : s.busy = true) :
    step s = .next ({ s with env := rest, caller := h }.reply (.status .stBusy)) := by
  rw [stepRunsDecodedInstruction s h c _ rest listed isHost unheld decoded]
  exact (if_neg (Nat.not_lt.mpr fits)).trans (if_pos busy)

end

/-- Settles O23: the first TXN finds the sequencer free and is accepted, which leaves it in OPEN; accepting changes no hold
and no parameter, so the second host still issues, and finds the sequencer busy. -/
theorem firstOfTwoTransactionsClaimsTheSlot : Obligations.FirstOfTwoTransactionsClaimsTheSlot := by
  intro s h h' c c' port port' baud baud' tmo tmo' req req' rest listed decoded decoded' isHost isHost' unheld unheld'
    fits fits' free
  have first := step_txn_of_free listed decoded isHost unheld fits (s.busy_eq_false.mpr free)
  have second := step_txn_of_busy
    (s := ({ s with env := .host h' c' :: rest, caller := h }.accept ⟨port, baud, tmo⟩ req).reply (.status .stOk))
    rfl decoded' isHost' unheld' fits' rfl
  exact (run_succ first 1).trans (run_succ second 0)

end Sys2Proof.Machine
end

section
/-! PROOF. The host opcode map (R71, R72): O4 and O5. -/

namespace Sys2Proof

theorem decode_hop_stat {k : HostCall} {idx : BitVec 3} (op : k.op = 0b00010#5 ++ idx) :
    decode (.hop k) = .ok (.stat idx) := by
  have row : ∀ idx : BitVec 3, (0b00010#5 ++ idx : Byte) &&& 0xF8#8 = 0x10#8
      ∧ (0b00010#5 ++ idx : Byte) ∉ [0x01#8, 0x02#8, 0x03#8] ∧ (0b00010#5 ++ idx : Byte).extractLsb' 0 3 = idx := by decide
  obtain ⟨masked, notBefore, index⟩ := row idx
  simp only [List.mem_cons, List.not_mem_nil, or_false, not_or] at notBefore
  simp only [decode, decodeHop_chain, op, notBefore, if_false, if_pos masked, index]

theorem stat_opcode_of_toNat {op : Byte} {idx : BitVec 3} (at_ : op.toNat = 16 + idx.toNat) : op = 0b00010#5 ++ idx := by
  have number : ∀ idx : BitVec 3, 16 + idx.toNat = (0b00010#5 ++ idx : Byte).toNat := by decide
  exact BitVec.eq_of_toNat_eq (at_.trans (number idx))

/-- Settles O4: of the rows tried in order (`decodeHop_chain`) the one of the opcode answers. -/
theorem hostOpcodesDecodeToTheirOperations : Obligations.HostOpcodesDecodeToTheirOperations := by
  intro k
  refine ⟨?_, ?_, ?_, fun idx at_ => decode_hop_stat (stat_opcode_of_toNat at_), ?_, ?_, ?_, ?_, ?_, ?_, ?_⟩
  all_goals
    intro op
    simp [decode, decodeHop_chain, op]

/-- An opcode that no row hits is rejected. -/
theorem tryRows_of_no_hit {rows : List HopRow} {k : HostCall} (noHit : ∀ r ∈ rows, r.hits k.op = false) :
    tryRows rows k = .reject .unknownHostOp := by
  induction rows with
  | nil => rfl
  | cons r rest ih =>
    obtain ⟨noHead, noRest⟩ := List.forall_mem_cons.mp noHit
    rw [tryRows, noHead]
    exact ih noRest

/-- The rows hit the opcodes of R71 and no others. -/
theorem hits_eq_false_of_unmapped : ∀ op : Byte,
    op.toNat ∉ [1, 2, 3, 16, 17, 18, 19, 20, 21, 22, 23, 32, 64, 65, 66, 67, 68, 69] →
    ∀ r ∈ hopRows, r.hits op = false := by decide

/-- The match/mask pairs of the map do not overlap (R72). -/
theorem hopRows_hit_at_most_once : ∀ op : Byte, (hopRows.filter (fun r => r.hits op)).length ≤ 1 := by decide

namespace Machine

/-- A listed opcode that no row hits is refused, given by a host that may issue (R72). -/
theorem step_unknownHostOp {s : State} {h : Nat} {k : HostCall} {rest : List Event} (listed : s.env = .host h (.hop k) :: rest)
    (isHost : h ≤ s.par.extraHosts) (unheld : h ∉ s.held) (noHit : ∀ r ∈ hopRows, r.hits k.op = false) :
    step s = .next ({ s with env := rest, caller := h }.refuse .unknownHostOp) := by
  have rejected : decode (.hop k) = .reject .unknownHostOp := tryRows_of_no_hit noHit
  have mayIssue : State.mayIssue h { s with env := rest } = true := mayIssue_of isHost unheld
  rw [step_cons listed, runEvent_host_of_mayIssue mayIssue]
  simp only [execCode, rejected, State.onReject]

/-- Settles O5: an opcode that no row hits is rejected by the decoder, and 0x16 and 0x17 are STAT with an index that has no
counter; both are refused on the state that the listed event leaves. -/
theorem undefinedHostOpcodesAreRefused : Obligations.UndefinedHostOpcodesAreRefused := by
  intro s h k rest listed isHost unheld
  refine ⟨hopRows_hit_at_most_once k.op, fun unmapped => ?_, fun badIndex => ?_⟩
  · exact step_unknownHostOp listed isHost unheld (hits_eq_false_of_unmapped k.op unmapped)
  · have decoded : decode (.hop k) = .ok (.stat 6) ∨ decode (.hop k) = .ok (.stat 7) :=
      badIndex.imp decode_hop_stat decode_hop_stat
    obtain decoded | decoded := decoded <;>
      exact stepRunsDecodedInstruction s h (.hop k) _ rest listed isHost unheld decoded

end Machine

end Sys2Proof
end

section
/-! PROOF. Encoding and decoding are inverse (R71, R77 to R81, R87): O1 and O2; the lengths of the frame classes: O3; codes
spelled out: O6. -/

namespace Sys2Proof

/-! ## Decoding what the encoder wrote -/

/-- A frame with a header is read by the layout of its class. -/
theorem decode_header {cmd : Byte} {cls : FrameClass} (ofClass : frameClass? cmd = some cls) (id : Byte) (addr : Word16)
    (rest : List Byte) :
    decode (.frame (header id cmd addr ++ rest)) = frameInstr cls (header id cmd addr ++ rest) :=
  decode_frame_of_class ofClass ..

/-- Settles O1, constructor by constructor. A host opcode is looked up in the map. A frame has the class of its constructor, by
its command byte; the layout of that class then finds every field where the encoder put it. -/
theorem decodeUndoesEncode : Obligations.DecodeUndoesEncode := by
  intro i wf
  cases i
  case stat idx => exact decode_hop_stat rfl
  case txn | poll | wait | statReset | serialize | parse | variableWords | asU32 | asI32 | asF32 =>
    simp [encode, decode, decodeHop_chain]
  case' getsizeReq id addr => refine (decode_header (cls := .getsizeReq) rfl id addr []).trans ?_
  case' getsizeOk id addr data => refine (decode_header (cls := .getsizeOk) rfl id addr data).trans ?_
  case' getsizeErr id result addr =>
    refine (decode_header (frameClass_getsizeErr result (of_decide_eq_true wf)) id addr []).trans ?_
  case' getbufBReq id addr size => refine (decode_header (cls := .getbufBReq) rfl id addr (le16 size)).trans ?_
  case' getbufBOk id addr size data => refine (decode_header (cls := .getbufBOk) rfl id addr (le16 size ++ data)).trans ?_
  case' getbufBErr id result addr size =>
    refine (decode_header (frameClass_getbufBErr result (of_decide_eq_true wf)) id addr (le16 size)).trans ?_
  case' putbufBReq id addr size data => refine (decode_header (cls := .putbufBReq) rfl id addr (le16 size ++ data)).trans ?_
  case' putbufBOk id addr size => refine (decode_header (cls := .putbufBOk) rfl id addr (le16 size)).trans ?_
  case' putbufBErr id result addr size =>
    refine (decode_header (frameClass_putbufBErr result (of_decide_eq_true wf)) id addr (le16 size)).trans ?_
  case' getbuf id result addr => refine (decode_header (frameClass_getbuf result) id addr []).trans ?_
  case' putbuf id result addr => refine (decode_header (frameClass_putbuf result) id addr []).trans ?_
  case' undefCode0 id result addr => refine (decode_header (frameClass_undefCode0 result) id addr []).trans ?_
  case' undefCode67 id result low addr => refine (decode_header (frameClass_undefCode67 result low) id addr []).trans ?_
  case' undefCode8F id result low addr => refine (decode_header (frameClass_undefCode8F result low) id addr []).trans ?_
  all_goals
    simp [frameInstr, ifLength, header, le16, rd16_addr, rd16_size, low_undefCode67, low_undefCode8F]

/-! ## Encoding what the decoder answered -/

/-- A byte list of at least 4 bytes is a header and the bytes after it. -/
theorem header_append_drop {f : List Byte} {cmd : Byte} (isCmd : f.getD 1 0 = cmd) (long : 4 ≤ f.length) :
    header (f.getD 0 0) cmd (rd16 f 2) ++ f.drop 4 = f := by
  subst isCmd
  match f, long with
  | id :: cmd :: a0 :: a1 :: rest, _ => rw [header, le16_rd16]; rfl

/-- The bytes after the header, 2 or more, are a size and the bytes after it. -/
theorem size_append_drop {f : List Byte} (long : 6 ≤ f.length) : le16 (rd16 f 4) ++ f.drop 6 = f.drop 4 := by
  match f, long with
  | id :: cmd :: a0 :: a1 :: s0 :: s1 :: rest, _ => rw [le16_rd16]; rfl

section
variable {f : List Byte} {cmd : Byte} (isCmd : f.getD 1 0 = cmd)
include isCmd

theorem header_eq (n : f.length = 4) : header (f.getD 0 0) cmd (rd16 f 2) = f := by
  simpa [List.drop_eq_nil_of_le n.le] using header_append_drop isCmd n.ge

theorem header_size_append_drop (long : 6 ≤ f.length) :
    header (f.getD 0 0) cmd (rd16 f 2) ++ le16 (rd16 f 4) ++ f.drop 6 = f := by
  rw [List.append_assoc, size_append_drop long, header_append_drop isCmd (by omega)]

theorem header_size_eq (n : f.length = 6) : header (f.getD 0 0) cmd (rd16 f 2) ++ le16 (rd16 f 4) = f := by
  simpa [List.drop_eq_nil_of_le n.le] using header_size_append_drop isCmd n.ge

end

/-- An instruction that a layout read from a frame of its class is well-formed and has that frame as its code. -/
theorem encode_of_frameInstr {cls : FrameClass} {f : List Byte} {i : Instr} (admits : cls.admits (f.getD 1 0) = true)
    (read : frameInstr cls f = .ok i) : i.WellFormed = true ∧ encode i = .frame f := by
  generalize isCmd : f.getD 1 0 = cmd at admits
  cases cls
  all_goals
    simp only [FrameClass.admits, Bool.and_eq_true, beq_iff_eq, decide_eq_true_eq] at admits
    simp only [frameInstr, isCmd, ifLength_ok, beq_iff_eq, decide_eq_true_eq] at read
    obtain ⟨fits, rfl⟩ := read
  case getsizeReq | getbuf | putbuf | undefCode0 | undefCode67 | undefCode8F =>
    exact ⟨rfl, congrArg Code.frame (header_eq (isCmd.trans admits) fits)⟩
  case getsizeOk => exact ⟨rfl, congrArg Code.frame (header_append_drop (isCmd.trans admits) fits)⟩
  case getsizeErr => exact ⟨decide_eq_true admits.2, congrArg Code.frame (header_eq (isCmd.trans admits.1) fits)⟩
  case getbufBReq | putbufBOk => exact ⟨rfl, congrArg Code.frame (header_size_eq (isCmd.trans admits) fits)⟩
  case getbufBOk | putbufBReq =>
    exact ⟨rfl, congrArg Code.frame (header_size_append_drop (isCmd.trans admits) fits)⟩
  case getbufBErr | putbufBErr =>
    exact ⟨decide_eq_true admits.2, congrArg Code.frame (header_size_eq (isCmd.trans admits.1) fits)⟩

/-- Any frame of 4 bytes or more has a header, so it is read by the layout of its class. -/
theorem decode_frame_of_long {f : List Byte} {cls : FrameClass} (long : 4 ≤ f.length)
    (ofClass : frameClass? (f.getD 1 0) = some cls) : decode (.frame f) = frameInstr cls f := by
  rw [← header_append_drop rfl long]
  exact decode_header ofClass ..

theorem decode_frame_sound {f : List Byte} {i : Instr} (decoded : decode (.frame f) = .ok i) :
    i.WellFormed = true ∧ encode i = .frame f := by
  obtain short | long := Nat.lt_or_ge f.length 4
  · simp [decode_frame_short short] at decoded
  · obtain ⟨cls, ofClass⟩ := exists_frameClass (f.getD 1 0)
    rw [decode_frame_of_long long ofClass] at decoded
    exact encode_of_frameInstr (frameClass_admits ofClass) decoded

/-- Trying rows answers with a row that hits the opcode. -/
theorem exists_row_of_tryRows {rows : List HopRow} {k : HostCall} {i : Instr} (decoded : tryRows rows k = .ok i) :
    ∃ r ∈ rows, r.hits k.op = true ∧ r.build k = i := by
  induction rows with
  | nil => cases decoded
  | cons r rest ih =>
    rw [tryRows] at decoded
    split at decoded
    next hit => exact ⟨r, List.mem_cons_self, hit, Decoded.ok.inj decoded⟩
    next =>
      obtain ⟨r', mem, found⟩ := ih decoded
      exact ⟨r', List.mem_cons_of_mem r mem, found⟩

/-- Every row of the map builds a well-formed instruction whose opcode is the one the row was hit by. -/
theorem hopRows_sound (k : HostCall) : ∀ r ∈ hopRows, r.hits k.op = true →
    (r.build k).WellFormed = true ∧ ∃ k', encode (r.build k) = .hop k' ∧ k'.op = k.op := by
  have fixed : ∀ pattern : Byte, (k.op &&& 0xFF == pattern) = true → pattern = k.op := by
    have all : ∀ op : Byte, op &&& 0xFF = op := by decide
    intro pattern hit
    rw [all, beq_iff_eq] at hit
    exact hit.symm
  simp only [hopRows, List.forall_mem_cons]
  refine ⟨?_, ?_, ?_, ?stat, ?_, ?_, ?_, ?_, ?_, ?_, ?_, nofun⟩
  case stat => exact fun hit => ⟨rfl, _, rfl, (stat_opcode k.op).mp (beq_iff_eq.mp hit)⟩
  all_goals exact fun hit => ⟨rfl, _, rfl, fixed _ hit⟩

theorem decode_hop_sound {k : HostCall} {i : Instr} (decoded : decode (.hop k) = .ok i) :
    i.WellFormed = true ∧ ∃ k', encode i = .hop k' ∧ k'.op = k.op := by
  obtain ⟨r, mem, hit, rfl⟩ := exists_row_of_tryRows decoded
  exact hopRows_sound k r mem hit

/-- Settles O2: a frame was read by the layout of its class, which keeps every byte; a host opcode hit the row that built the
instruction. -/
theorem decodedInstructionsReencode : Obligations.DecodedInstructionsReencode := by
  intro c i decoded
  cases c with
  | hop k =>
    obtain ⟨wf, encoded⟩ := decode_hop_sound decoded
    exact ⟨wf, nofun, fun _ same => Code.hop.inj same ▸ encoded⟩
  | frame f =>
    obtain ⟨wf, encoded⟩ := decode_frame_sound decoded
    exact ⟨wf, fun _ same => encoded.trans same, nofun⟩

/-! ## The lengths of the frame classes -/

/-- The shortest frame of a class (R78 to R81): the header, with a size in the buffer classes. -/
def FrameClass.minLength (cls : FrameClass) : Nat :=
  match cls with
  | .getsizeReq | .getsizeOk | .getsizeErr | .getbuf | .putbuf | .undefCode0 | .undefCode67 | .undefCode8F => 4
  | .getbufBReq | .getbufBOk | .getbufBErr | .putbufBReq | .putbufBOk | .putbufBErr => 6

/-- Does a frame of the class go on with data of any length? -/
def FrameClass.hasData (cls : FrameClass) : Bool := cls == .getsizeOk || cls == .getbufBOk || cls == .putbufBReq

/-- A layout reads an instruction from exactly the lengths of its class. -/
theorem frameInstr_ok_iff (cls : FrameClass) (f : List Byte) : (∃ i, frameInstr cls f = .ok i) ↔
    if cls.hasData then cls.minLength ≤ f.length else f.length = cls.minLength := by
  cases cls <;> simp [frameInstr, ifLength_ok, FrameClass.minLength, FrameClass.hasData]

/-- Command byte and class agree on the parts of a frame: data in the three cases of R101, a size with the codes of R77. -/
theorem frameClass_parts : ∀ cmd : Byte, ∀ cls ∈ frameClass? cmd,
    cls.hasData = Machine.hasData (codeOf cmd) (resultOf cmd)
    ∧ cls.minLength = if Machine.hasSize (codeOf cmd) then 6 else 4 := by decide

/-- Settles O3: a frame of 4 bytes or more is read by the layout of its class, which fits the lengths that the parts of the
class make (`frameInstr_ok_iff`); code and result say which parts these are. -/
theorem frameClassesAndLengths : Obligations.FrameClassesAndLengths := by
  refine ⟨by decide, fun f => ?_⟩
  obtain short | long := Nat.lt_or_ge f.length 4
  · simp [decode_frame_short short, Nat.not_le.mpr short]
  · obtain ⟨cls, ofClass⟩ := exists_frameClass (f.getD 1 0)
    obtain ⟨data, min⟩ := frameClass_parts _ cls ofClass
    simp only [decode_frame_of_long long ofClass, frameInstr_ok_iff, data, min, Machine.hasData_iff,
      Machine.hasSize_iff, if_true_left]
    split_ifs <;> omega

/-- Settles O6: the decoder computes each answer. -/
theorem spelledCodesDecode : Obligations.SpelledCodesDecode := by
  unfold Obligations.SpelledCodesDecode
  decide

end Sys2Proof
end

section
/-! PROOF. What SERIALIZE writes for the frame classes and what PARSE answers to it (R77 to R81, R101 to R107): O39 to O43. -/

namespace Sys2Proof.Machine

/-! ## The bytes of a frame in the arithmetic of R10 to R12 -/

theorem header_eq_bytes (id cmd : Byte) (addr : Word16) : header id cmd addr =
    [id, cmd, BitVec.ofNat 8 (addr.toNat % 256), BitVec.ofNat 8 (addr.toNat / 256)] := by
  rw [header, le16_eq_bytes]
  rfl

theorem header_size_eq_bytes (id cmd : Byte) (addr size : Word16) : header id cmd addr ++ le16 size =
    [id, cmd, BitVec.ofNat 8 (addr.toNat % 256), BitVec.ofNat 8 (addr.toNat / 256),
      BitVec.ofNat 8 (size.toNat % 256), BitVec.ofNat 8 (size.toNat / 256)] := by
  rw [header_eq_bytes, le16_eq_bytes]
  rfl

theorem cmdByte_eq_ofNat : ∀ result code : Nibble, cmdByte result code = BitVec.ofNat 8 (16 * result.toNat + code.toNat) := by
  decide

/-- The command byte of an `.ERR` class is no OK response's (R75). -/
theorem resultOf_error_ne_ok {result : Nibble} (isErr : 2 ≤ result.toNat) (code : Nibble) :
    resultOf (cmdByte result code) ≠ 0x1 := by
  rw [resultOf_cmdByte]
  rintro rfl
  simp at isErr

theorem code_unknown {cmd : Byte} (other : cmd.toNat % 16 ∉ [1, 2, 4]) : codeOf cmd ∉ [0x1, 0x2, 0x4] := by
  revert cmd
  decide

theorem code67_unknown : ∀ low : BitVec 1, (0b011#3 ++ low : Nibble) ∉ [0x1, 0x2, 0x4] := by decide

theorem code8F_unknown : ∀ low : BitVec 3, (0b1#1 ++ low : Nibble) ∉ [0x1, 0x2, 0x4] := by decide

/-- SERIALIZE writes the header alone for any code but 1, 2 and 4 (R101). -/
theorem serialize_unknown {p : Packet} (other : codeOf p.cmd ∉ [0x1, 0x2, 0x4]) :
    serialize p = header p.id p.cmd p.addr := by
  have bare : ∀ code : Nibble, code ∉ [0x1, 0x2, 0x4] → hasSize code = false ∧ ∀ result, hasData code result = false := by
    decide
  obtain ⟨noSize, noData⟩ := bare _ other
  simp [serialize, noSize, noData]

/-! ## PARSE on a frame written out (R103 to R106) -/

section
variable {cmd : Byte} (id : Byte) (addr size : Word16) (rest : List Byte)

/-- PARSE of at least 4 bytes goes by the code, with the fields of the header. -/
theorem parse_header : parse (header id cmd addr ++ rest) =
    if codeOf cmd = 0x1 then parseGetsize (header id cmd addr ++ rest) ⟨id, cmd, addr, 0, []⟩
    else if codeOf cmd = 0x2 ∨ codeOf cmd = 0x4 then parseBuf (header id cmd addr ++ rest) ⟨id, cmd, addr, 0, []⟩
    else .error .unknownCommand := by
  simp [parse, header, le16, rd16_addr]

/-- A GETSIZE OK response parses with 4 bytes of data only (R104). -/
theorem parse_getsizeOk (code : codeOf cmd = 0x1) (ok : resultOf cmd = 0x1) : parse (header id cmd addr ++ rest) =
    if rest.length = 4 then .ok ⟨id, cmd, addr, 0, rest⟩ else .error .trailingOrMissingBytes := by
  rw [parse_header, if_pos code, parseGetsize, if_pos ok]
  split_ifs <;> simp_all [endParse, header, le16]

/-- Any other GETSIZE frame parses as a header alone (R104). -/
theorem parse_getsize (code : codeOf cmd = 0x1) (notOk : resultOf cmd ≠ 0x1) :
    parse (header id cmd addr) = .ok ⟨id, cmd, addr, 0, []⟩ := by
  rw [← List.append_nil (header id cmd addr), parse_header, if_pos code, parseGetsize, if_neg notOk]
  rfl

/-- PARSE of a header with code 2 or 4 and a size (R105). -/
theorem parse_size (code : codeOf cmd = 0x2 ∨ codeOf cmd = 0x4) : parse (header id cmd addr ++ le16 size ++ rest) =
    if codeOf cmd = 0x2 ∧ resultOf cmd = 0x1 then
      if rest.length = size.toNat then .ok ⟨id, cmd, addr, size, rest⟩ else .error .trailingOrMissingBytes
    else if rest = [] then .ok ⟨id, cmd, addr, size, []⟩ else .error .trailingOrMissingBytes := by
  have notGetsize : codeOf cmd ≠ 0x1 := by rintro h; simp [h] at code
  have length : (header id cmd addr ++ (le16 size ++ rest)).length = 6 + rest.length := by simp; omega
  have readSize : rd16 (header id cmd addr ++ (le16 size ++ rest)) 4 = size := rd16_size ..
  have dropped : (header id cmd addr ++ (le16 size ++ rest)).drop 6 = rest := rfl
  rw [List.append_assoc, parse_header, if_neg notGetsize, if_pos code, parseBuf, if_neg (by omega)]
  simp only [endParse, length, readSize, dropped, Nat.add_sub_cancel_left]
  congr 1
  · by_cases fits : rest.length = size.toNat
    · simp [← fits]
    · simp [fits]
  · simp

/-- A GETBUF_B OK response parses when `size` counts its data bytes (R105). -/
theorem parse_getbufBOk (code : codeOf cmd = 0x2) (ok : resultOf cmd = 0x1) : parse (header id cmd addr ++ le16 size ++ rest) =
    if rest.length = size.toNat then .ok ⟨id, cmd, addr, size, rest⟩ else .error .trailingOrMissingBytes := by
  rw [parse_size id addr size rest (.inl code), if_pos ⟨code, ok⟩]

/-- Any other GETBUF_B or PUTBUF_B frame parses without data after its size only (R105). -/
theorem parse_bufData (code : codeOf cmd = 0x2 ∧ resultOf cmd ≠ 0x1 ∨ codeOf cmd = 0x4) :
    parse (header id cmd addr ++ le16 size ++ rest) =
      if rest = [] then .ok ⟨id, cmd, addr, size, []⟩ else .error .trailingOrMissingBytes := by
  rw [parse_size id addr size rest (code.imp_left And.left), if_neg]
  rintro ⟨get, ok⟩
  obtain ⟨-, notOk⟩ | put := code
  · exact notOk ok
  · simp [get] at put

theorem parse_buf (code : codeOf cmd = 0x2 ∧ resultOf cmd ≠ 0x1 ∨ codeOf cmd = 0x4) :
    parse (header id cmd addr ++ le16 size) = .ok ⟨id, cmd, addr, size, []⟩ := by
  simpa using parse_bufData id addr size [] code

/-- A frame of any other code does not parse (R106). -/
theorem parse_unknown {f : List Byte} (long : 4 ≤ f.length) (other : codeOf (f.getD 1 0) ∉ [0x1, 0x2, 0x4]) :
    parse f = .error .unknownCommand := by
  simp only [List.mem_cons, List.not_mem_nil, or_false, not_or] at other
  simp only [parse, if_neg (Nat.not_lt.mpr long), other, or_self, if_false]

end

/-! ## Presenting a frame of a class -/

/-- A presented frame whose bytes and answer are known. -/
theorem presentFrame_eq {p : Packet} {f : List Byte} {r : ParseResult} (s : State) (written : serialize p = f)
    (answered : parse f = r) : s.presentFrame p = { s with replies := (s.caller, .frame f r) :: s.replies } := by
  subst written answered
  rfl

section
variable {cmd : Byte} (id : Byte) (addr size : Word16) (data : List Byte) (s : State)

theorem presentFrame_getsize (code : codeOf cmd = 0x1) (notOk : resultOf cmd ≠ 0x1) :
    s.presentFrame (framePacket id cmd addr 0 []) = { s with replies :=
      (s.caller, .frame (header id cmd addr) (.ok ⟨id, cmd, addr, 0, []⟩)) :: s.replies } := by
  refine presentFrame_eq s ?_ (parse_getsize id addr code notOk)
  simp [serialize, framePacket, code, hasSize]

theorem presentFrame_getsizeOk (code : codeOf cmd = 0x1) (ok : resultOf cmd = 0x1) :
    s.presentFrame (framePacket id cmd addr 0 data) = { s with replies :=
      (s.caller, .frame (header id cmd addr ++ data)
        (if data.length = 4 then .ok ⟨id, cmd, addr, 0, data⟩ else .error .trailingOrMissingBytes)) :: s.replies } := by
  refine presentFrame_eq s ?_ (parse_getsizeOk id addr data code ok)
  simp [serialize, framePacket, code, ok, hasSize, hasData]

/-- A GETBUF_B or PUTBUF_B frame without data, which parses unless it is a GETBUF_B OK response. -/
theorem presentFrame_buf (code : codeOf cmd = 0x2 ∧ resultOf cmd ≠ 0x1 ∨ codeOf cmd = 0x4) :
    s.presentFrame (framePacket id cmd addr size []) = { s with replies :=
      (s.caller, .frame (header id cmd addr ++ le16 size) (.ok ⟨id, cmd, addr, size, []⟩)) :: s.replies } := by
  refine presentFrame_eq s ?_ (parse_buf id addr size code)
  obtain ⟨code, -⟩ | code := code <;> simp [serialize, framePacket, code, hasSize]

theorem presentFrame_getbufBOk (code : codeOf cmd = 0x2) (ok : resultOf cmd = 0x1) :
    s.presentFrame (framePacket id cmd addr size data) = { s with replies :=
      (s.caller, .frame (header id cmd addr ++ le16 size ++ data)
        (if data.length = size.toNat then .ok ⟨id, cmd, addr, size, data⟩
         else .error .trailingOrMissingBytes)) :: s.replies } := by
  refine presentFrame_eq s ?_ (parse_getbufBOk id addr size data code ok)
  simp [serialize, framePacket, code, ok, hasSize, hasData]

theorem presentFrame_putbufBReq (code : codeOf cmd = 0x4) (request : resultOf cmd = 0x0) :
    s.presentFrame (framePacket id cmd addr size data) = { s with replies :=
      (s.caller, .frame (header id cmd addr ++ le16 size ++ data)
        (if data = [] then .ok ⟨id, cmd, addr, size, []⟩ else .error .trailingOrMissingBytes)) :: s.replies } := by
  refine presentFrame_eq s ?_ (parse_bufData id addr size data (.inr code))
  simp [serialize, framePacket, code, request, hasSize, hasData]

theorem presentFrame_unknown (other : codeOf cmd ∉ [0x1, 0x2, 0x4]) :
    s.presentFrame (framePacket id cmd addr size data) = { s with replies :=
      (s.caller, .frame (header id cmd addr) (.error .unknownCommand)) :: s.replies } :=
  presentFrame_eq s (serialize_unknown other) (parse_unknown (by simp) other)

end

/-! ## The frames of the classes: O39 to O42 -/

/-- Settles O39: the three classes are the two shapes of a GETSIZE frame, with the bytes of its fields. -/
theorem getsizeFrames : Obligations.GetsizeFrames := by
  intro id result addr data s lo hi err
  have bytes (cmd : Byte) : header id cmd addr = [id, cmd, lo, hi] := header_eq_bytes id cmd addr
  have errByte : cmdByte result 1 = err := cmdByte_eq_ofNat result 1
  simp only [← bytes, ← errByte]
  refine ⟨?_, ?_, fun isErr => ?_⟩
  · exact congrArg _ (presentFrame_getsize id addr s (by decide) (by decide))
  · exact congrArg _ (presentFrame_getsizeOk id addr data s (by decide) (by decide))
  · exact congrArg _ (presentFrame_getsize id addr s (codeOf_cmdByte _ _) (resultOf_error_ne_ok isErr _))

/-- Settles O40: request and error are a header and a size, which parse; an OK frame has its data too. -/
theorem getbufBFrames : Obligations.GetbufBFrames := by
  intro id result addr size data s lo hi slo shi err
  have bytes (cmd : Byte) : header id cmd addr ++ le16 size = [id, cmd, lo, hi, slo, shi] :=
    header_size_eq_bytes id cmd addr size
  have errByte : cmdByte result 2 = err := cmdByte_eq_ofNat result 2
  simp only [← bytes, ← errByte]
  refine ⟨?_, ?_, fun isErr => ?_⟩
  · exact congrArg _ (presentFrame_buf id addr size s (.inl (by decide)))
  · exact congrArg _ (presentFrame_getbufBOk id addr size data s (by decide) (by decide))
  · exact congrArg _ (presentFrame_buf id addr size s (.inl ⟨codeOf_cmdByte _ _, resultOf_error_ne_ok isErr _⟩))

/-- Settles O41: a request has its data too; acknowledgement and error are a header and a size, which parse. -/
theorem putbufBFrames : Obligations.PutbufBFrames := by
  intro id result addr size data s lo hi slo shi err
  have bytes (cmd : Byte) : header id cmd addr ++ le16 size = [id, cmd, lo, hi, slo, shi] :=
    header_size_eq_bytes id cmd addr size
  have errByte : cmdByte result 4 = err := cmdByte_eq_ofNat result 4
  simp only [← bytes, ← errByte]
  refine ⟨?_, ?_, fun _ => ?_⟩
  · exact congrArg _ (presentFrame_putbufBReq id addr size data s (by decide) (by decide))
  · exact congrArg _ (presentFrame_buf id addr size s (.inr (by decide)))
  · exact congrArg _ (presentFrame_buf id addr size s (.inr (codeOf_cmdByte _ _)))

/-- Settles O42: the five classes are frames whose code is none of 1, 2 and 4, and such a frame is its header. -/
theorem otherCodeFrames : Obligations.OtherCodeFrames := by
  refine ⟨?_, fun p other => ?_, fun f long other => parse_unknown long (code_unknown other)⟩
  · intro id result low1 low3 addr s lo hi answer
    have answers (code : Nibble) (other : code ∉ [0x1, 0x2, 0x4]) :
        .next (s.presentFrame (framePacket id (cmdByte result code) addr 0 [])) = answer code.toNat := by
      rw [presentFrame_unknown _ _ _ _ _ (by rwa [codeOf_cmdByte]), header_eq_bytes, cmdByte_eq_ofNat]
    have toNat67 : ∀ low : BitVec 1, (0b011#3 ++ low : Nibble).toNat = 6 + low.toNat := by decide
    have toNat8F : ∀ low : BitVec 3, (0b1#1 ++ low : Nibble).toNat = 8 + low.toNat := by decide
    rw [← toNat67, ← toNat8F]
    exact ⟨answers 3 (by decide), answers 5 (by decide), answers 0 (by decide), answers _ (code67_unknown low1),
      answers _ (code8F_unknown low3)⟩
  · rw [serialize_unknown (code_unknown other), header_eq_bytes]

/-! ## Which frames parse: O43 -/

theorem exists_ok_iff {c : Prop} [Decidable c] {p : Packet} {e : ParseError} :
    (∃ q, (if c then ParseResult.ok p else .error e) = .ok q) ↔ c := by
  split <;> simp [*]

theorem parse_header_ne_ok {id cmd : Byte} {addr : Word16} (other : codeOf cmd ∉ [0x1, 0x2, 0x4]) :
    ¬ ∃ p, parse (header id cmd addr) = .ok p := by
  rw [parse_unknown (f := header id cmd addr) (Nat.le_of_eq rfl) other]
  exact nofun

/-- Settles O43: PARSE's answer to the code of each frame class is an error, a packet, or a packet on the condition under which
the class is parsable. -/
theorem parseAcceptsExactlyParsableFrames : Obligations.ParseAcceptsExactlyParsableFrames := by
  intro i f wf encoded
  cases i
  case txn | poll | wait | stat | statReset | serialize | parse | variableWords | asU32 | asI32 | asF32 => cases encoded
  all_goals obtain rfl := Code.frame.inj encoded
  case getsizeReq id addr => exact iff_of_true ⟨_, parse_getsize id addr (by decide) (by decide)⟩ rfl
  case getsizeOk id addr data =>
    rw [parse_getsizeOk id addr data (by decide) (by decide), exists_ok_iff]
    exact beq_iff_eq.symm
  case getsizeErr id result addr =>
    exact iff_of_true ⟨_, parse_getsize id addr (codeOf_cmdByte ..) (resultOf_error_ne_ok (of_decide_eq_true wf) _)⟩ rfl
  case getbufBReq id addr size => exact iff_of_true ⟨_, parse_buf id addr size (.inl (by decide))⟩ rfl
  case getbufBOk id addr size data =>
    rw [parse_getbufBOk id addr size data (by decide) (by decide), exists_ok_iff]
    exact beq_iff_eq.symm
  case getbufBErr id result addr size =>
    exact iff_of_true ⟨_, parse_buf id addr size
      (.inl ⟨codeOf_cmdByte .., resultOf_error_ne_ok (of_decide_eq_true wf) _⟩)⟩ rfl
  case putbufBReq id addr size data =>
    rw [parse_bufData id addr size data (.inr (by decide)), exists_ok_iff]
    exact List.isEmpty_iff.symm
  case putbufBOk id addr size => exact iff_of_true ⟨_, parse_buf id addr size (.inr (by decide))⟩ rfl
  case putbufBErr id result addr size => exact iff_of_true ⟨_, parse_buf id addr size (.inr (codeOf_cmdByte ..))⟩ rfl
  case getbuf id result addr => exact iff_of_false (parse_header_ne_ok (by rw [codeOf_cmdByte]; decide)) nofun
  case putbuf id result addr => exact iff_of_false (parse_header_ne_ok (by rw [codeOf_cmdByte]; decide)) nofun
  case undefCode0 id result addr => exact iff_of_false (parse_header_ne_ok (by rw [codeOf_cmdByte]; decide)) nofun
  case undefCode67 id result low addr =>
    exact iff_of_false (parse_header_ne_ok (by rw [codeOf_cmdByte]; exact code67_unknown low)) nofun
  case undefCode8F id result low addr =>
    exact iff_of_false (parse_header_ne_ok (by rw [codeOf_cmdByte]; exact code8F_unknown low)) nofun

end Sys2Proof.Machine
end

section
/-! PROOF. PARSE and SERIALIZE as functions of the bytes, and the round trip between them (R101 to R109): O31 to O34; what a
rejected frame gets (log entry 9): O8. -/

namespace Sys2Proof.Machine

/-! ## SERIALIZE (R101, R102) -/

/-- A SERIALIZE answers `f` exactly when its bytes are `f`, and does nothing else (R100). -/
theorem exec_serialize_eq_iff {p : Packet} {f : List Byte} {s : State} :
    exec (.serialize p) s = .next { s with replies := (s.caller, .bytes f) :: s.replies } ↔ serialize p = f := by
  simp [exec, execSerialize, State.reply, State.replyTo]

/-- The bytes of SERIALIZE in the arithmetic of R10 to R12. -/
theorem serialize_eq_bytes (p : Packet) : serialize p =
    [p.id, p.cmd, BitVec.ofNat 8 (p.addr.toNat % 256), BitVec.ofNat 8 (p.addr.toNat / 256)]
      ++ (if p.cmd.toNat % 16 = 2 ∨ p.cmd.toNat % 16 = 4 then
            [BitVec.ofNat 8 (p.size.toNat % 256), BitVec.ofNat 8 (p.size.toNat / 256)] else [])
      ++ (if (p.cmd.toNat % 16 = 4 ∧ p.cmd.toNat / 16 = 0) ∨ (p.cmd.toNat % 16 = 2 ∧ p.cmd.toNat / 16 = 1)
            ∨ (p.cmd.toNat % 16 = 1 ∧ p.cmd.toNat / 16 = 1) then p.data else []) := by
  simp only [serialize, hasSize_iff, hasData_iff, header_eq_bytes, le16_eq_bytes]

/-- Settles O31: SERIALIZE's bytes in the arithmetic of the rule go to the issuing host. -/
theorem serializeWritesItsFields : Obligations.SerializeWritesItsFields := fun p _ =>
  exec_serialize_eq_iff.mpr (serialize_eq_bytes p)

/-- Settles O32: the lengths of the three parts of SERIALIZE's bytes. -/
theorem serializeLength : Obligations.SerializeLength := by
  intro p code result
  rw [serialize_eq_bytes, List.length_append, List.length_append, apply_ite List.length, apply_ite List.length]
  rfl

/-! ## PARSE (R103 to R107) -/

/-- A PARSE answers `r` exactly when PARSE of the bytes is `r`, and does nothing else (R100). -/
theorem exec_parse_eq_iff {f : List Byte} {r : ParseResult} {s : State} :
    exec (.parse f) s = .next { s with replies := (s.caller, .parsed r) :: s.replies } ↔ parse f = r := by
  simp [exec, execParse, State.reply, State.replyTo]

theorem codeOf_eq_iff {cmd : Byte} {code : Nibble} : codeOf cmd = code ↔ cmd.toNat % 16 = code.toNat := by
  rw [← codeOf_toNat, BitVec.toNat_inj]

theorem resultOf_eq_iff {cmd : Byte} {result : Nibble} : resultOf cmd = result ↔ cmd.toNat / 16 = result.toNat := by
  rw [← resultOf_toNat, BitVec.toNat_inj]

/-- The byte count that code, result and `size` require of a frame PARSE takes (R83, R104, R105). -/
def requiredLength (f : List Byte) : Nat :=
  let code := (f.getD 1 0).toNat % 16
  let result := (f.getD 1 0).toNat / 16
  if code = 1 then (if result = 1 then 8 else 4)
  else if code = 2 ∧ result = 1 then 6 + ((f.getD 4 0).toNat + 256 * (f.getD 5 0).toNat) else 6

/-- The packet of a frame PARSE takes: the fields of the header, the size unless the code is GETSIZE's, and the bytes after
them (R103 to R105). -/
def packetOf (f : List Byte) : Packet where
  id := f.getD 0 0
  cmd := f.getD 1 0
  addr := rd16 f 2
  size := if (f.getD 1 0).toNat % 16 = 1 then 0 else rd16 f 4
  data := f.drop (if (f.getD 1 0).toNat % 16 = 1 then 4 else 6)

section
variable {f : List Byte} (long : 4 ≤ f.length)
include long

/-- PARSE of 4 bytes or more goes by the code (R103). -/
theorem parse_of_long : parse f =
    if codeOf (f.getD 1 0) = 0x1 then parseGetsize f ⟨f.getD 0 0, f.getD 1 0, rd16 f 2, 0, []⟩
    else if codeOf (f.getD 1 0) = 0x2 ∨ codeOf (f.getD 1 0) = 0x4 then
      parseBuf f ⟨f.getD 0 0, f.getD 1 0, rd16 f 2, 0, []⟩
    else .error .unknownCommand :=
  if_neg (Nat.not_lt.mpr long)

/-- A GETSIZE frame parses with 4 bytes after the header in an OK response, else with none (R104). -/
theorem parse_of_getsize (code : (f.getD 1 0).toNat % 16 = 1) : parse f =
    if f.length = requiredLength f then .ok (packetOf f) else .error .trailingOrMissingBytes := by
  have isGetsize : codeOf (f.getD 1 0) = 0x1 := codeOf_eq_iff.mpr code
  by_cases ok : (f.getD 1 0).toNat / 16 = 1
  · have read := parse_getsizeOk (f.getD 0 0) (rd16 f 2) (f.drop 4) isGetsize (resultOf_eq_iff.mpr ok)
    rw [header_append_drop rfl long, List.length_drop] at read
    simp only [read, requiredLength, packetOf, if_pos code, if_pos ok]
    exact if_congr (by omega) rfl rfl
  · have notOk : resultOf (f.getD 1 0) ≠ 0x1 := mt resultOf_eq_iff.mp ok
    rw [parse_of_long long, if_pos isGetsize, parseGetsize, if_neg notOk, endParse]
    simp only [requiredLength, packetOf, if_pos code, if_neg ok]
    exact ite_congr (propext eq_comm) (fun fits => by rw [List.drop_eq_nil_of_le fits.le]) (fun _ => rfl)

/-- A GETBUF_B or PUTBUF_B frame parses with as many bytes after the size as it says in a GETBUF_B OK response, else with none
(R105); one that is cut short in its size does not parse. -/
theorem parse_of_buf (code : (f.getD 1 0).toNat % 16 = 2 ∨ (f.getD 1 0).toNat % 16 = 4) : parse f =
    if f.length = requiredLength f then .ok (packetOf f) else .error .trailingOrMissingBytes := by
  have notGetsize : (f.getD 1 0).toNat % 16 ≠ 1 := by omega
  obtain short | sized := Nat.lt_or_ge f.length 6
  · have isBuf : codeOf (f.getD 1 0) = 0x2 ∨ codeOf (f.getD 1 0) = 0x4 := code.imp codeOf_eq_iff.mpr codeOf_eq_iff.mpr
    have misfit : f.length ≠ requiredLength f := by
      simp only [requiredLength, if_neg notGetsize]
      split_ifs <;> omega
    rw [parse_of_long long, if_neg (mt codeOf_eq_iff.mp notGetsize), if_pos isBuf, parseBuf, if_pos (by omega), if_neg misfit]
  by_cases ok : (f.getD 1 0).toNat % 16 = 2 ∧ (f.getD 1 0).toNat / 16 = 1
  · have size : (rd16 f 4).toNat = (f.getD 4 0).toNat + 256 * (f.getD 5 0).toNat := rd16_toNat f 4
    have read := parse_getbufBOk (f.getD 0 0) (rd16 f 2) (rd16 f 4) (f.drop 6) (codeOf_eq_iff.mpr ok.1)
      (resultOf_eq_iff.mpr ok.2)
    rw [header_size_append_drop rfl sized, List.length_drop] at read
    simp only [read, requiredLength, packetOf, if_neg notGetsize, if_pos ok]
    exact if_congr (by omega) rfl rfl
  · have notOk : codeOf (f.getD 1 0) = 0x2 ∧ resultOf (f.getD 1 0) ≠ 0x1 ∨ codeOf (f.getD 1 0) = 0x4 := by
      simp only [codeOf_eq_iff, resultOf_eq_iff, ne_eq]
      exact code.imp_left fun get => ⟨get, fun isOk => ok ⟨get, isOk⟩⟩
    have read := parse_bufData (f.getD 0 0) (rd16 f 2) (rd16 f 4) (f.drop 6) notOk
    rw [header_size_append_drop rfl sized] at read
    simp only [read, requiredLength, packetOf, if_neg notGetsize, if_neg ok, List.drop_eq_nil_iff]
    exact ite_congr (propext (by omega)) (fun fits => by rw [List.drop_eq_nil_of_le fits.le]) (fun _ => rfl)

theorem parse_of_known
    (known : (f.getD 1 0).toNat % 16 = 1 ∨ (f.getD 1 0).toNat % 16 = 2 ∨ (f.getD 1 0).toNat % 16 = 4) : parse f =
      if f.length = requiredLength f then .ok (packetOf f) else .error .trailingOrMissingBytes :=
  known.elim (parse_of_getsize long) (parse_of_buf long)

end

/-- PARSE by byte count and code, in the order of R107. -/
theorem parse_eq (f : List Byte) : parse f =
    if f.length < 4 then .error .frameTooShort
    else if (f.getD 1 0).toNat % 16 ≠ 1 ∧ (f.getD 1 0).toNat % 16 ≠ 2 ∧ (f.getD 1 0).toNat % 16 ≠ 4 then
      .error .unknownCommand
    else if f.length ≠ requiredLength f then .error .trailingOrMissingBytes
    else .ok (packetOf f) := by
  split_ifs with short other misfit
  · exact if_pos short
  · exact parse_unknown (Nat.not_lt.mp short) (code_unknown (by simpa using other))
  · rw [parse_of_known (Nat.not_lt.mp short) (by omega), if_neg misfit]
  · rw [parse_of_known (Nat.not_lt.mp short) (by omega), if_pos (not_not.mp misfit)]

/-- Settles O33: the fields of `packetOf` in the arithmetic of R10 to R12 go to the issuing host. -/
theorem parseAnswersByCodeAndCount : Obligations.ParseAnswersByCodeAndCount :=
  ⟨rfl, rfl, rfl, fun _ => rfl, fun f _ => exec_parse_eq_iff.mpr (parse_eq f)⟩

/-! ## The round trip (R109) -/

/-- SERIALIZE drops no byte of a packet that has data only where data is written (R101). -/
theorem serialize_of_data_written {p : Packet} (written : hasData (codeOf p.cmd) (resultOf p.cmd) = true ∨ p.data = []) :
    serialize p = header p.id p.cmd p.addr ++ (if hasSize (codeOf p.cmd) then le16 p.size else []) ++ p.data := by
  rw [serialize]
  obtain kept | noData := written
  · rw [if_pos kept]
  · rw [noData, ite_self]

theorem packetOf_data_written {f : List Byte} (fits : f.length = requiredLength f) :
    hasData (codeOf (packetOf f).cmd) (resultOf (packetOf f).cmd) = true ∨ (packetOf f).data = [] := by
  simp only [hasData_iff, packetOf, List.drop_eq_nil_iff]
  simp only [requiredLength] at fits
  split_ifs at fits ⊢ <;> omega

theorem serialize_packetOf {f : List Byte} (long : 4 ≤ f.length)
    (known : (f.getD 1 0).toNat % 16 = 1 ∨ (f.getD 1 0).toNat % 16 = 2 ∨ (f.getD 1 0).toNat % 16 = 4)
    (fits : f.length = requiredLength f) : serialize (packetOf f) = f := by
  rw [serialize_of_data_written (packetOf_data_written fits)]
  by_cases getsize : (f.getD 1 0).toNat % 16 = 1
  · have noSize : ¬ hasSize (codeOf (f.getD 1 0)) = true := by rw [hasSize_iff]; omega
    simp only [packetOf, if_pos getsize, if_neg noSize, List.append_nil]
    exact header_append_drop rfl long
  · have sized : hasSize (codeOf (f.getD 1 0)) = true := (hasSize_iff _).mpr (known.resolve_left getsize)
    have long : 6 ≤ f.length := by
      simp only [requiredLength, if_neg getsize] at fits
      split_ifs at fits <;> omega
    simp only [packetOf, if_neg getsize, if_pos sized]
    exact header_size_append_drop rfl long

/-- The bytes PARSE takes are what SERIALIZE writes for the packet it answers. -/
theorem serialize_of_parse_ok {f : List Byte} {p : Packet} (parsed : parse f = .ok p) : serialize p = f := by
  rw [parse_eq] at parsed
  split_ifs at parsed with short other misfit
  obtain rfl := ParseResult.ok.inj parsed
  exact serialize_packetOf (Nat.not_lt.mp short) (by omega) (not_not.mp misfit)

/-- Settles O34: PARSE takes only bytes that its packet serializes to; it takes no bytes after the size of a PUTBUF_B request,
where SERIALIZE writes the data. -/
theorem parsedPacketsSerializeBack : Obligations.ParsedPacketsSerializeBack := by
  refine ⟨fun f p s answered => ?_, fun p putbuf someData => ?_⟩
  · have parsed : parse f = .ok p := exec_parse_eq_iff.mp answered
    have written : serialize p = f := serialize_of_parse_ok parsed
    exact ⟨exec_serialize_eq_iff.mpr written, exec_parse_eq_iff.mpr (written ▸ parsed)⟩
  · have request : hasSize (codeOf p.cmd) = true ∧ hasData (codeOf p.cmd) (resultOf p.cmd) = true ∧ codeOf p.cmd = 0x4 :=
      putbuf ▸ by decide
    obtain ⟨sized, hasData, code⟩ := request
    rw [serialize_of_data_written (.inl hasData), if_pos sized, parse_bufData _ _ _ _ (.inr code), if_neg someData]

/-! ## Frames of no class (log entry 9) -/

/-- Bytes of the count that PARSE requires are a frame of a class: those classes whose frames have data take more counts, the
others just that one (`frameClassesAndLengths`). -/
theorem exists_decode_of_fits {f : List Byte} (long : 4 ≤ f.length)
    (known : (f.getD 1 0).toNat % 16 = 1 ∨ (f.getD 1 0).toNat % 16 = 2 ∨ (f.getD 1 0).toNat % 16 = 4)
    (fits : f.length = requiredLength f) : ∃ i, decode (.frame f) = .ok i := by
  refine (frameClassesAndLengths.2 f).mpr ⟨long, ?_⟩
  simp only [requiredLength] at fits
  split_ifs at fits ⊢ <;> omega

/-- PARSE's answer to bytes that are a frame of no class: an error, in the order of R107. -/
theorem parse_of_rejected {f : List Byte} {r : DecodeReject} (rejected : decode (.frame f) = .reject r) : parse f = .error
    (if f.length < 4 then .frameTooShort
     else if (f.getD 1 0).toNat % 16 ∉ [1, 2, 4] then .unknownCommand
     else .trailingOrMissingBytes) := by
  have noClass : ¬ ∃ i, decode (.frame f) = .ok i := by simp [rejected]
  have unlisted : (f.getD 1 0).toNat % 16 ∉ [1, 2, 4] ↔
      (f.getD 1 0).toNat % 16 ≠ 1 ∧ (f.getD 1 0).toNat % 16 ≠ 2 ∧ (f.getD 1 0).toNat % 16 ≠ 4 := by simp
  simp only [parse_eq, unlisted]
  split_ifs with short other misfit
  · rfl
  · rfl
  · rfl
  · exact absurd (exists_decode_of_fits (Nat.not_lt.mp short) (by omega) (not_not.mp misfit)) noClass

/-- Settles O8: the listed event is what the step runs, its host may issue, and of rejected bytes it gets PARSE's answer. -/
theorem rejectedFrameGetsParseError : Obligations.RejectedFrameGetsParseError := by
  intro s h f r rest listed isHost free rejected
  have mayIssue : State.mayIssue h { s with env := rest } = true := mayIssue_of isHost free
  rw [step_cons listed, runEvent_host_of_mayIssue mayIssue, execCode, rejected, ← parse_of_rejected rejected]
  rfl

end Sys2Proof.Machine
end

section
/-! PROOF. VARIABLES and the readings of a word (R108 to R112): O35 to O37; the codec touches no block state (R100): O38. -/

namespace Sys2Proof.Machine

/-! ## VARIABLES (R108) -/

theorem variableWords_of_misaligned {data : List Byte} (misaligned : data.length % 4 ≠ 0) : variableWords data = [] :=
  if_neg misaligned

section
variable {data : List Byte} (aligned : data.length % 4 = 0)
include aligned

theorem variableWords_length : (variableWords data).length = data.length / 4 := by
  rw [variableWords, if_pos aligned, List.length_map, List.length_range]

theorem variableWords_getD {k : Nat} (inside : k < data.length / 4) : (variableWords data).getD k 0 = rd32 data (4 * k) := by
  rw [variableWords, if_pos aligned]
  simp [inside]

end

/-- Settles O35: word `k` is what `rd32` reads at byte `4k`. -/
theorem variablesReadLittleEndianWords : Obligations.VariablesReadLittleEndianWords := fun p _ =>
  ⟨variableWords p.data, rfl, variableWords_of_misaligned, fun aligned => ⟨variableWords_length aligned, fun k inside => by
    rw [variableWords_getD aligned inside, rd32_toNat]⟩⟩

/-! ## AS_U32 and AS_I32 (R110, R111) -/

/-- Bit 31 is the sign of two's complement. -/
theorem getLsbD_31_eq_decide (w : Word32) : w.getLsbD 31 = decide (2 ^ 31 ≤ w.toNat) :=
  w.msb_eq_getLsbD_last.symm.trans w.msb_eq_decide

/-- Settles O36: with bit 31 clear the integer is the number of the word, else that less `2 ^ 32`. -/
theorem wordsReadUnsignedAndSigned : Obligations.WordsReadUnsignedAndSigned := by
  refine fun w s => ⟨rfl, asI32 w, rfl, ?_⟩
  have bound := w.isLt
  simp only [asI32, getLsbD_31_eq_decide, decide_eq_true_eq]
  split_ifs <;> omega

/-! ## AS_F32 (R112) -/

/-- AS_F32 in the arithmetic of the word's number. -/
theorem asF32_eq (w : Word32) : asF32 w =
    let neg : Bool := decide (w.toNat / 2 ^ 31 = 1)
    let exponent : Nat := w.toNat / 2 ^ 23 % 256
    let fraction : Nat := w.toNat % 2 ^ 23
    if exponent = 255 then (if fraction = 0 then .infinity neg else .nan neg (BitVec.ofNat 23 fraction))
    else if exponent = 0 then (if fraction = 0 then .zero neg else .finite neg fraction (-149))
    else .finite neg (8388608 + fraction) ((exponent : Int) - 150) := by
  have bound := w.isLt
  have sign : w.getLsbD 31 = decide (w.toNat / 2 ^ 31 = 1) := by
    rw [getLsbD_31_eq_decide, decide_eq_decide]
    omega
  have exponent : (w.extractLsb' 23 8).toNat = w.toNat / 2 ^ 23 % 256 := by
    rw [BitVec.extractLsb'_toNat, Nat.shiftRight_eq_div_pow]
  have fraction : (w.extractLsb' 0 23).toNat = w.toNat % 2 ^ 23 := by
    rw [BitVec.extractLsb'_toNat, Nat.shiftRight_zero]
  have noFraction : w.extractLsb' 0 23 = 0 ↔ w.toNat % 2 ^ 23 = 0 := by rw [← BitVec.toNat_inj, fraction]; rfl
  have fractionBits : w.extractLsb' 0 23 = BitVec.ofNat 23 (w.toNat % 2 ^ 23) :=
    BitVec.eq_of_toNat_eq (by rw [fraction, BitVec.toNat_ofNat, Nat.mod_mod])
  simp only [asF32, sign, exponent, noFraction, fraction]
  split_ifs with top zero bottom zero
  · rfl
  · exact congrArg _ fractionBits
  all_goals rfl

/-- The bit pattern of a datum, as a number: sign, biased exponent, fraction. For a subnormal and a normal number alike it is
the mantissa and `exp + 149` times `2 ^ 23`, since the leading bit of a normal mantissa counts one into the exponent. -/
def Binary32.bits (d : Binary32) : Nat :=
  match d with
  | .zero neg => 2 ^ 31 * neg.toNat
  | .finite neg mant exp => 2 ^ 31 * neg.toNat + 2 ^ 23 * (exp + 149).toNat + mant
  | .infinity neg => 2 ^ 31 * neg.toNat + 2 ^ 23 * 255
  | .nan neg fraction => 2 ^ 31 * neg.toNat + 2 ^ 23 * 255 + fraction.toNat

/-- AS_F32 loses no bit of the word. -/
theorem bits_asF32 (w : Word32) : (asF32 w).bits = w.toNat := by
  have bound := w.isLt
  have sign : (decide (w.toNat / 2 ^ 31 = 1)).toNat = w.toNat / 2 ^ 31 := by
    obtain positive | negative : w.toNat / 2 ^ 31 = 0 ∨ w.toNat / 2 ^ 31 = 1 := by omega
    · rw [positive]; rfl
    · rw [negative]; rfl
  rw [asF32_eq]
  dsimp only
  split_ifs <;> simp only [Binary32.bits, sign, BitVec.toNat_ofNat] <;> omega

theorem asF32_injective : Function.Injective asF32 := fun v w same =>
  BitVec.eq_of_toNat_eq (by rw [← bits_asF32, same, bits_asF32])

/-- Settles O37: the five data are the branches of AS_F32, by exponent and fraction, and the bits of the datum give the word
back. -/
theorem wordsReadAsBinary32 : Obligations.WordsReadAsBinary32 := by
  refine fun w s => ⟨⟨asF32 w, rfl, ?_⟩, fun v same => asF32_injective same⟩
  rw [asF32_eq]
  refine ⟨fun top zero => ?_, fun top nonzero => ?_, fun bottom zero => ?_, fun bottom nonzero => ?_,
    fun notTop notBottom => ?_⟩
  · exact (if_pos top).trans (if_pos zero)
  · exact (if_pos top).trans (if_neg nonzero)
  · exact (if_neg (by omega)).trans ((if_pos bottom).trans (if_pos zero))
  · exact (if_neg (by omega)).trans ((if_pos bottom).trans (if_neg nonzero))
  · exact (if_neg notTop).trans (if_neg notBottom)

/-! ## Purity (R100) -/

/-- Executing a frame class is presenting one packet, whatever the state (R87). -/
theorem exec_of_isFrame {i : Instr} (isFrame : i.isFrame = true) : ∃ p, ∀ s, exec i s = .next (s.presentFrame p) := by
  cases i
  case txn | poll | wait | stat | statReset | serialize | parse | variableWords | asU32 | asI32 | asF32 => cases isFrame
  all_goals exact ⟨_, fun _ => rfl⟩

/-- Settles O38: a frame class returns what its packet gets from SERIALIZE and PARSE; a codec operation returns its function
of the operands. -/
theorem codecIsPureAndTouchesNoBlockState : Obligations.CodecIsPureAndTouchesNoBlockState := by
  rintro i (isFrame | ⟨p, rfl⟩ | ⟨f, rfl⟩ | ⟨p, rfl⟩ | ⟨w, rfl⟩ | ⟨w, rfl⟩ | ⟨w, rfl⟩)
  case inl =>
    obtain ⟨p, presents⟩ := exec_of_isFrame isFrame
    exact ⟨.frame (serialize p) (parse (serialize p)), presents⟩
  all_goals exact ⟨_, fun _ => rfl⟩

end Sys2Proof.Machine
end

section
/-! PROOF. Every step answers a next state (R185): O15; the host operation TXN (R130, R190): O22. -/

namespace Sys2Proof.Machine

/-- Settles O15: the next event, whatever it is, has a move to some state. -/
theorem everyStepAnswersNextState : Obligations.EveryStepAnswersNextState := by
  intro s
  obtain ⟨t, taken, _⟩ := runEvent_moves s.nextEvent.1 s.nextEvent.2
  exact ⟨t, taken⟩

section
variable {s : State} {req : List Byte} (port : PortId) (baud tmo : Word32)

theorem exec_txn_of_too_long (tooLong : s.par.reqCap < req.length) :
    exec (.txn port baud tmo req) s = .next (s.refuse .requestTooLong) :=
  if_pos tooLong

theorem exec_txn_of_busy (fits : req.length ≤ s.par.reqCap) (busy : s.busy = true) :
    exec (.txn port baud tmo req) s = .next (s.reply (.status .stBusy)) :=
  (if_neg (Nat.not_lt.mpr fits)).trans (if_pos busy)

theorem exec_txn_of_free (fits : req.length ≤ s.par.reqCap) (free : s.busy = false) :
    exec (.txn port baud tmo req) s = .next ((s.accept ⟨port, baud, tmo⟩ req).reply (.status .stOk)) :=
  (if_neg (Nat.not_lt.mpr fits)).trans (if_neg (ne_true_of_eq_false free))

end

theorem statusWord_opening_none : statusWord .opening .none = 0x00000009 := by decide

/-- Settles O22: the length of the request decides first, then whether the sequencer is busy. -/
theorem transactionRequest : Obligations.TransactionRequest := by
  intro port baud tmo req s
  refine ⟨exec_txn_of_too_long port baud tmo, fun fits busy => ⟨rfl, ?_⟩, fun fits free => ⟨rfl, ?_⟩⟩
  · exact exec_txn_of_busy port baud tmo fits (s.busy_eq_true.mpr busy)
  · exact ⟨_, exec_txn_of_free port baud tmo fits (s.busy_eq_false.mpr free), statusWord_opening_none, rfl⟩

end Sys2Proof.Machine
end

section
/-! PROOF. The CRC framer (R132, R133): O44. -/

namespace Sys2Proof.Machine

theorem frameOf_eq_bytes (x : List Byte) : frameOf x = x ++
    [BitVec.ofNat 8 ((Config.crc16 x).toNat % 256), BitVec.ofNat 8 ((Config.crc16 x).toNat / 256)] := by
  rw [frameOf, le16_eq_bytes]

@[simp] theorem stripOf_frameOf (x : List Byte) : stripOf (frameOf x) = x := by
  rw [stripOf, frameOf_length, Nat.add_sub_cancel, frameOf, List.take_left]

theorem checkOf_of_short {f : List Byte} (short : f.length < 2) : checkOf f = false := by
  rw [checkOf, decide_eq_false (Nat.not_le.mpr short), Bool.false_and]

/-- With a trailer, CHECK compares its two bytes, low byte first, with the CRC of the bytes before it. -/
theorem checkOf_eq_true_iff {f : List Byte} : checkOf f = true ↔
    2 ≤ f.length ∧ (f.getD (f.length - 2) 0).toNat + 256 * (f.getD (f.length - 1) 0).toNat
      = (Config.crc16 (stripOf f)).toNat := by
  rw [checkOf, Bool.and_eq_true, decide_eq_true_eq, beq_iff_eq, ← BitVec.toNat_inj, rd16_toNat]
  refine and_congr_right fun long => ?_
  rw [show f.length - 2 + 1 = f.length - 1 by omega]

/-- A list of 2 or more bytes is what STRIP leaves and the two bytes that CHECK reads. -/
theorem stripOf_append_trailer {f : List Byte} (long : 2 ≤ f.length) : stripOf f ++ le16 (rd16 f (f.length - 2)) = f := by
  have trailer : f.drop (f.length - 2) = [f.getD (f.length - 2) 0, f.getD (f.length - 2 + 1) 0] := by
    rw [List.drop_eq_getElem_cons (by omega), List.drop_eq_getElem_cons (by omega), List.drop_eq_nil_of_le (by omega)]
    simp (disch := omega) only [List.getD_eq_getElem]
  rw [le16_rd16, ← trailer, stripOf, List.take_append_drop]

theorem le16_injective : Function.Injective le16 :=
  Function.LeftInverse.injective (g := (rd16 · 0)) fun _ => rd16_of_le16 _ _ _ rfl rfl

/-- CHECK passes what FRAME wrote, and nothing else. -/
theorem checkOf_iff_frameOf {f : List Byte} (long : 2 ≤ f.length) : checkOf f = true ↔ f = frameOf (stripOf f) := by
  have passes : checkOf f = true ↔ rd16 f (f.length - 2) = Config.crc16 (stripOf f) := by simp [checkOf, long]
  refine passes.trans ⟨fun same => ?_, fun framed => ?_⟩
  · rw [frameOf, ← same, stripOf_append_trailer long]
  · have sameTrailer : le16 (rd16 f (f.length - 2)) = le16 (Config.crc16 (stripOf f)) :=
      List.append_cancel_left ((stripOf_append_trailer long).trans framed)
    exact le16_injective sameTrailer

@[simp] theorem checkOf_frameOf (x : List Byte) : checkOf (frameOf x) = true :=
  (checkOf_iff_frameOf (by simp)).mpr (by simp)

/-- Settles O44: STRIP takes the trailer off again, and CHECK passes exactly what FRAME wrote. -/
theorem crcFramerAgrees : Obligations.CrcFramerAgrees :=
  ⟨fun x => ⟨frameOf_eq_bytes x, frameOf_length x, checkOf_frameOf x, stripOf_frameOf x⟩,
    fun _ => ⟨checkOf_of_short, checkOf_iff_frameOf⟩⟩

end Sys2Proof.Machine
end

section
/-! PROOF. The steps of the sequencer (R134 to R141): O45 to O51. -/

namespace Sys2Proof.Machine

/-! ## The steps, each by its draw -/

section
variable {s : State}

theorem seqStep_openAnswer (at_ : s.seq = .opening) (ok : Bool) :
    s.seqStep (.openAnswer ok) = if ok then s.openOk else s.openFail := by
  rw [State.seqStep, at_]
  rfl

theorem seqStep_writeAnswer (at_ : s.seq = .writing) (ok : Bool) :
    s.seqStep (.writeAnswer ok) = if ok then s.writeOk else s.writeFail := by
  rw [State.seqStep, at_]
  rfl

theorem seqStep_byte (at_ : s.seq = .receiving) (b : Byte) : s.seqStep (.byte b) = s.rxByte b := by
  rw [State.seqStep, at_]
  rfl

theorem seqStep_gap (at_ : s.seq = .receiving) (some_ : s.rxb ≠ []) :
    s.seqStep .gap = if checkOf s.rxb then s.rxGapOk else s.rxGapBad := by
  rw [State.seqStep, at_]
  exact if_neg some_

theorem seqStep_deadline (at_ : s.seq = .receiving) : s.seqStep .deadline = s.rxDeadline := by
  rw [State.seqStep, at_]
  rfl

end

/-! ## The steps with the draw listed -/

section
variable {s : State} {rest : List Event}

/-- A listed draw is the sequencer's step (R141). -/
theorem step_link {d : LinkEvent} (listed : s.env = .link d :: rest) :
    step s = .next (State.seqStep d { s with env := rest }) :=
  step_cons listed

theorem step_openFail (at_ : s.seq = .opening) (listed : s.env = .link (.openAnswer false) :: rest) :
    step s = .next (State.openFail { s with env := rest }) :=
  (step_link listed).trans (congrArg _ (seqStep_openAnswer (s := { s with env := rest }) at_ false))

theorem step_openOk (at_ : s.seq = .opening) (listed : s.env = .link (.openAnswer true) :: rest) :
    step s = .next (State.openOk { s with env := rest }) :=
  (step_link listed).trans (congrArg _ (seqStep_openAnswer (s := { s with env := rest }) at_ true))

theorem step_writeFail (at_ : s.seq = .writing) (listed : s.env = .link (.writeAnswer false) :: rest) :
    step s = .next (State.writeFail { s with env := rest }) :=
  (step_link listed).trans (congrArg _ (seqStep_writeAnswer (s := { s with env := rest }) at_ false))

theorem step_writeOk (at_ : s.seq = .writing) (listed : s.env = .link (.writeAnswer true) :: rest) :
    step s = .next (State.writeOk { s with env := rest }) :=
  (step_link listed).trans (congrArg _ (seqStep_writeAnswer (s := { s with env := rest }) at_ true))

theorem step_byte (at_ : s.seq = .receiving) {b : Byte} (listed : s.env = .link (.byte b) :: rest) :
    step s = .next (State.rxByte b { s with env := rest }) :=
  (step_link listed).trans (congrArg _ (seqStep_byte (s := { s with env := rest }) at_ b))

theorem step_gapOk (at_ : s.seq = .receiving) (good : checkOf s.rxb = true) (listed : s.env = .link .gap :: rest) :
    step s = .next (State.rxGapOk { s with env := rest }) := by
  have some_ : s.rxb ≠ [] := List.ne_nil_of_length_pos (Nat.lt_of_lt_of_le (by decide) (checkOf_eq_true_iff.mp good).1)
  rw [step_link listed, seqStep_gap (s := { s with env := rest }) at_ some_, if_pos good]

theorem step_gapBad (at_ : s.seq = .receiving) (some_ : s.rxb ≠ []) (bad : ¬ checkOf s.rxb = true)
    (listed : s.env = .link .gap :: rest) : step s = .next (State.rxGapBad { s with env := rest }) := by
  rw [step_link listed, seqStep_gap (s := { s with env := rest }) at_ some_, if_neg bad]

theorem step_deadline (at_ : s.seq = .receiving) (listed : s.env = .link .deadline :: rest) :
    step s = .next (State.rxDeadline { s with env := rest }) :=
  (step_link listed).trans (congrArg _ (seqStep_deadline (s := { s with env := rest }) at_))

end

/-- Settles O45: the draw answers the request of OPEN; the STATUS that held hosts get is that of the outcome. -/
theorem openStep : Obligations.OpenStep := by
  refine fun s rest at_ => ⟨fun listed => ⟨_, step_openFail at_ listed, ?_⟩, fun listed => ?_⟩
  · rw [← statusWord_done_portOpenError]
    exact ⟨rfl, rfl⟩
  · rw [step_openOk at_ listed, ← frameOf_eq_bytes]
    rfl

/-- Settles O46: the draw answers the request of WRITE; the STATUS that held hosts get is that of the outcome. -/
theorem writeStep : Obligations.WriteStep := by
  refine fun s rest at_ => ⟨fun listed => ⟨_, step_writeFail at_ listed, ?_⟩, step_writeOk at_⟩
  rw [← statusWord_done_writeError]
  exact ⟨rfl, rfl⟩

/-- Settles O47: RX-BYTE takes the byte, and asks first whether RXB is full. -/
theorem rxByteStep : Obligations.RxByteStep := fun _ _ _ at_ listed =>
  ⟨fun full => (step_byte at_ listed).trans (congrArg _ (if_pos full)),
    fun room => (step_byte at_ listed).trans (congrArg _ (if_neg room))⟩

/-- Settles O48: a good frame is one that passes CHECK (`checkOf_eq_true_iff`), and its payload is what STRIP leaves. -/
theorem rxGapStep : Obligations.RxGapStep := by
  intro s rest at_ some_ listed n payload good
  constructor
  · intro isGood
    refine ⟨_, step_gapOk at_ (checkOf_eq_true_iff.mpr isGood) listed, ?_⟩
    rw [← statusWord_done_ok]
    exact ⟨rfl, rfl⟩
  · intro isBad
    refine ⟨_, step_gapBad at_ some_ (mt checkOf_eq_true_iff.mp isBad) listed, ?_⟩
    rw [← statusWord_done_crcError]
    exact ⟨rfl, rfl⟩

/-- Settles O49: the deadline ends the transaction without a look at RXB. -/
theorem rxDeadlineStep : Obligations.RxDeadlineStep := by
  refine fun s rest at_ listed => ⟨_, step_deadline at_ listed, ?_⟩
  rw [← statusWord_done_timeout]
  exact ⟨rfl, rfl⟩

/-! ## Which draws are enabled (R141, R196) -/

/-- The draws that each state of the sequencer enables. -/
theorem enables_iff {s : State} {d : LinkEvent} : s.enables d = true ↔
    (s.seq = .opening ∧ ∃ ok, d = .openAnswer ok) ∨ (s.seq = .writing ∧ ∃ ok, d = .writeAnswer ok)
      ∨ (s.seq = .receiving ∧ ((∃ b, d = .byte b) ∨ (d = .gap ∧ s.rxb ≠ []) ∨ d = .deadline)) := by
  cases at_ : s.seq <;> cases d <;> simp [State.enables, at_]

/-- Settles O50: the listed draw is none of those that the state enables (`enables_iff`). -/
theorem drawsNotEnabledDoNothing : Obligations.DrawsNotEnabledDoNothing := by
  intro s d rest listed notEnabled
  have disabled : State.enables { s with env := rest } d = false := by
    rw [Bool.eq_false_iff, Ne, enables_iff]
    rcases notEnabled with at_ | at_ | ⟨at_, noAnswer⟩ | ⟨at_, noAnswer⟩ | ⟨at_, noReception⟩
    · simp [at_]
    · simp [at_]
    · simp [at_, noAnswer]
    · simp [at_, noAnswer]
    · obtain ⟨ok, rfl | rfl⟩ | ⟨rfl, empty⟩ := noReception
      · simp [at_]
      · simp [at_]
      · simp [at_, empty]
  rw [step_link listed, seqStep_of_not_enabled disabled]

/-- Settles O51: a failed open, a failed write and the deadline end the transaction. -/
theorem busySequencerHasStep : Obligations.BusySequencerHasStep := by
  rintro s (at_ | at_ | at_)
  · exact ⟨.openAnswer false, fun rest =>
      ⟨_, step_openFail (s := { s with env := .link (.openAnswer false) :: rest }) at_ rfl, by simp [at_]⟩⟩
  · exact ⟨.writeAnswer false, fun rest =>
      ⟨_, step_writeFail (s := { s with env := .link (.writeAnswer false) :: rest }) at_ rfl, by simp [at_]⟩⟩
  · exact ⟨.deadline, fun rest =>
      ⟨_, step_deadline (s := { s with env := .link .deadline :: rest }) at_ rfl, by simp [at_]⟩⟩

end Sys2Proof.Machine
end

section
/-! PROOF. The runs of one transaction (R144): O53 and O54. -/

namespace Sys2Proof.Machine

/-! ## Receiving bytes (R137) -/

/-- RX-BYTE for each of the bytes, in arrival order. -/
def State.rxBytes (bytes : List Byte) (s : State) : State := bytes.foldl (fun s b => s.rxByte b) s

section
variable (s : State) (b : Byte) (bytes : List Byte)

@[simp] theorem State.rxByte_seq : (s.rxByte b).seq = s.seq := by
  rw [State.rxByte]
  split <;> rfl

@[simp] theorem State.rxByte_env : (s.rxByte b).env = s.env := by
  rw [State.rxByte]
  split <;> rfl

/-- RX-BYTE does not look at the schedule. -/
theorem State.rxByte_withEnv (env : List Event) : { s.rxByte b with env := env } = State.rxByte b { s with env := env } := by
  simp only [State.rxByte]
  split <;> rfl

@[simp] theorem State.rxBytes_cons : s.rxBytes (b :: bytes) = (s.rxByte b).rxBytes bytes := rfl

@[simp] theorem State.rxBytes_seq : (s.rxBytes bytes).seq = s.seq := by
  induction bytes generalizing s with
  | nil => rfl
  | cons b bytes ih => rw [State.rxBytes_cons, ih, State.rxByte_seq]

@[simp] theorem State.rxBytes_env : (s.rxBytes bytes).env = s.env := by
  induction bytes generalizing s with
  | nil => rfl
  | cons b bytes ih => rw [State.rxBytes_cons, ih, State.rxByte_env]

end

/-- Bytes for which RXB has room are all appended, in arrival order. -/
theorem rxBytes_of_room {s : State} {bytes : List Byte} (room : s.rxb.length + bytes.length ≤ s.par.rxCap) :
    s.rxBytes bytes = { s with rxb := s.rxb ++ bytes } := by
  induction bytes generalizing s with
  | nil => rw [List.append_nil]; rfl
  | cons b bytes ih =>
    rw [List.length_cons] at room
    have appended : s.rxByte b = { s with rxb := s.rxb ++ [b] } := if_neg (by omega)
    have room' : (s.rxb ++ [b]).length + bytes.length ≤ s.par.rxCap := by
      rw [List.length_append, List.length_singleton]
      omega
    rw [State.rxBytes_cons, appended, ih (s := { s with rxb := s.rxb ++ [b] }) room', List.append_assoc]
    rfl

/-- The run over listed bytes in RECV. -/
theorem run_bytes {s : State} {bytes : List Byte} {rest : List Event} (at_ : s.seq = .receiving)
    (listed : s.env = bytes.map (fun b => Event.link (.byte b)) ++ rest) :
    core.run bytes.length s = .next (State.rxBytes bytes { s with env := rest }) := by
  induction bytes generalizing s with
  | nil =>
    have same : { s with env := rest } = s := by rw [show rest = s.env from listed.symm]
    rw [same]
    rfl
  | cons b bytes ih =>
    have received := ih (s := State.rxByte b { s with env := bytes.map (fun b => Event.link (.byte b)) ++ rest })
      ((State.rxByte_seq ..).trans at_) (State.rxByte_env ..)
    rw [State.rxByte_withEnv] at received
    exact (run_succ (step_byte at_ listed) bytes.length).trans received

/-! ## From OPEN through RECV (R134, R136, R137) -/

/-- A granted open and a good write lead from OPEN to RECV, where the link's bytes are received. -/
theorem run_to_received {s : State} {bytes : List Byte} {rest : List Event} (at_ : s.seq = .opening)
    (listed : s.env = .link (.openAnswer true) :: .link (.writeAnswer true)
      :: (bytes.map (fun b => Event.link (.byte b)) ++ rest)) :
    core.run (2 + bytes.length) s = .next (State.rxBytes bytes (State.writeOk (State.openOk { s with env := rest }))) := by
  have written : core.run 2 s = .next (State.writeOk (State.openOk { s with
      env := bytes.map (fun b => Event.link (.byte b)) ++ rest })) :=
    (run_succ (step_openOk at_ listed) 1).trans (run_succ (step_writeOk rfl rfl) 0)
  exact (core_run_add core written bytes.length).trans (run_bytes rfl rfl)

/-- The end of RECV for a frame that FRAME wrote (R139). -/
theorem rxGapOk_of_frame {s : State} {payload : List Byte} (received : s.rxb = frameOf payload) :
    s.rxGapOk = (s.countRx (frameOf payload).length).finish .ok payload := by
  rw [State.rxGapOk, received, stripOf_frameOf]

/-- Settles O53: RXB has room for the frame, CHECK passes it, and STRIP gives the payload. -/
theorem successfulTransactionDeliversPayload : Obligations.SuccessfulTransactionDeliversPayload := by
  intro s payload rest at_ fits listed
  have received := run_to_received at_ listed
  rw [rxBytes_of_room (by simpa using fits)] at received
  have ended := (core_run_add core received 1).trans (run_succ (step_gapOk rfl (checkOf_frameOf payload) rfl) 0)
  rw [show payload.length + 5 = 2 + (frameOf payload).length + 1 by rw [frameOf_length]; omega, ended,
    rxGapOk_of_frame rfl, ← statusWord_done_ok, ← frameOf_length, ← frameOf_length]
  rfl

/-- Settles O54: the first failure, or else the deadline after the bytes, is the last step of the run. -/
theorem transactionEndsWithinItsSteps : Obligations.TransactionEndsWithinItsSteps := by
  intro s opened written bytes rest at_ listed
  match opened, written with
  | false, _ => exact ⟨1, _, by omega, run_succ (step_openFail at_ listed) 0, rfl, rfl, rfl, rfl, rfl, rfl⟩
  | true, false =>
    exact ⟨2, _, by omega, (run_succ (step_openOk at_ listed) 1).trans (run_succ (step_writeFail rfl rfl) 0),
      rfl, rfl, rfl, rfl, rfl, rfl⟩
  | true, true =>
    obtain ⟨t, received, receiving, next⟩ : ∃ t : State, core.run (2 + bytes.length) s = .next t ∧ t.seq = .receiving
        ∧ t.env = .link .deadline :: rest :=
      ⟨_, run_to_received at_ listed, State.rxBytes_seq .., State.rxBytes_env ..⟩
    have ended := (core_run_add core received 1).trans (run_succ (step_deadline receiving next) 0)
    exact ⟨2 + bytes.length + 1, _, by omega, ended, rfl, rfl, rfl, rfl, rfl, rfl⟩

end Sys2Proof.Machine
end

section
/-! PROOF. How many steps the sequencer makes in a transaction (R144): O56. -/

namespace Sys2Proof.Machine

/-- The steps that the sequencer still has to make up to the end of a transaction, less those that receive a byte. -/
def SeqState.stepsLeft (q : SeqState) : Nat :=
  match q with
  | .idle => 0
  | .opening => 3
  | .writing => 2
  | .receiving => 1
  | .done => 0

/-- An enabled draw uses up one of the steps left, unless it delivers a byte. -/
theorem seqStep_stepsLeft {s : State} {d : LinkEvent} (enabled : s.enables d = true) :
    (s.seqStep d).seq.stepsLeft + 1 ≤ s.seq.stepsLeft + (s.receivesByte (.link d)).toNat := by
  rcases enables_iff.mp enabled with ⟨at_, ok, rfl⟩ | ⟨at_, ok, rfl⟩ | ⟨at_, ⟨b, rfl⟩ | ⟨rfl, some_⟩ | rfl⟩
  · rw [seqStep_openAnswer at_, at_]
    cases ok <;> simp [SeqState.stepsLeft, State.receivesByte]
  · rw [seqStep_writeAnswer at_, at_]
    cases ok <;> simp [SeqState.stepsLeft, State.receivesByte]
  · rw [seqStep_byte at_, State.rxByte_seq, State.receivesByte, enabled, Bool.toNat_true]
  · rw [seqStep_gap at_ some_, at_]
    split <;> simp [SeqState.stepsLeft]
  · rw [seqStep_deadline at_, at_]
    simp [SeqState.stepsLeft]

/-- No event of a transaction adds to the steps left, and a step of the sequencer that receives no byte is one of them. -/
theorem Takes.stepsLeft {e : Event} {s t : State} (taken : Takes e s t) (busy : s.busy = true) :
    t.seq.stepsLeft + (s.sequencerMoves e).toNat ≤ s.seq.stepsLeft + (s.receivesByte e).toNat := by
  cases e with
  | host h c =>
    obtain ⟨env, tick, move⟩ := taken.move
    have same : t.seq = s.seq := by
      by_contra moved
      obtain reset | ⟨d, link, _⟩ | ⟨_, _, _, _, _, _, _, _, free, _⟩ := move.seq_moved moved
      · cases reset
      · cases link
      · exact absurd (s.busy_eq_false.mpr free) (by simp [busy])
    rw [same]
    rfl
  | reset =>
    obtain ⟨env, tick, next⟩ := taken
    cases next
    exact Nat.zero_le _
  | link d =>
    obtain ⟨env, tick, next⟩ := taken
    cases next
    cases enabled : s.enables d with
    | true =>
      rw [State.sequencerMoves, enabled]
      exact seqStep_stepsLeft (s := { s with env := env, tick := tick }) enabled
    | false =>
      rw [State.sequencerMoves, enabled, seqStep_of_not_enabled (s := { s with env := env, tick := tick }) enabled]
      exact Nat.le_add_right _ _

/-- Counted over the events of a run while the sequencer is busy. -/
theorem countP_sequencerMoves_le {sched : Nat → Event} {r : Nat → State} {n k : Nat} (run : IsRun sched r)
    (busy : ∀ j, j < k → (r (n + j)).busy = true) :
    (r (n + k)).seq.stepsLeft + (List.range k).countP (fun j => (r (n + j)).sequencerMoves (sched (n + j)))
      ≤ (r n).seq.stepsLeft + (List.range k).countP (fun j => (r (n + j)).receivesByte (sched (n + j))) := by
  induction k with
  | zero => exact Nat.le_refl _
  | succ k ih =>
    have before := ih fun j below => busy j (by omega)
    have last := (run (n + k)).stepsLeft (busy k (by omega))
    simp only [List.range_succ, List.countP_append, List.countP_singleton]
    simp only [Bool.toNat, Bool.cond_eq_ite] at last
    rw [← Nat.add_assoc n k 1]
    omega

/-- Settles O56: in OPEN three steps are left. -/
theorem sequencerStepsOfTransactionAreBounded : Obligations.SequencerStepsOfTransactionAreBounded := by
  intro sched r n k run at_ busy
  have bound := countP_sequencerMoves_le run busy
  rw [at_] at bound
  exact (Nat.le_add_left _ _).trans bound

end Sys2Proof.Machine
end

section
/-! PROOF. The packet balance (R165) under every step but a STAT_RESET in RECV: O20; the counters before a wrap
(R166): O21. -/

namespace Sys2Proof.Machine

theorem wrapAdd_modEq (w v n : Nat) : wrapAdd w v n ≡ v + n [MOD 2 ^ w] := Nat.mod_modEq _ _

theorem le_wrapAdd {w v n : Nat} (noWrap : v + n < 2 ^ w) : v ≤ wrapAdd w v n := by
  rw [wrapAdd, Nat.mod_eq_of_lt noWrap]
  exact Nat.le_add_right v n

/-! ## The packet balance (R165) -/

/-- The packets that were answered or given up: what TX_PACKETS is weighed against. -/
def Counters.settled (c : Counters) : Nat := c.rxPackets + c.crcErrors + c.timeouts

/-- In RECV one packet more was sent than is settled. -/
theorem State.packetBalance_of_receiving {s : State} (at_ : s.seq = .receiving) :
    s.PacketBalance ↔ s.cnt.txPackets ≡ s.cnt.settled + 1 [MOD 2 ^ s.par.wCnt] := by
  rw [State.PacketBalance, if_pos at_]
  rfl

/-- Outside RECV every packet sent is settled. -/
theorem State.packetBalance_of_not_receiving {s : State} (outside : s.seq ≠ .receiving) :
    s.PacketBalance ↔ s.cnt.txPackets ≡ s.cnt.settled [MOD 2 ^ s.par.wCnt] := by
  rw [State.PacketBalance, if_neg outside]
  rfl

theorem State.packetBalance_of_zero {s : State} (outside : s.seq ≠ .receiving) (zero : s.cnt = Counters.zero) :
    s.PacketBalance := by
  rw [s.packetBalance_of_not_receiving outside, zero]
  rfl

namespace State.PacketBalance
variable {s : State} (balance : s.PacketBalance)
include balance

/-- Moving SEQ from outside RECV to outside RECV, with no counter written, keeps the balance. -/
theorem of_outside {t : State} (from_ : s.seq ≠ .receiving) (to_ : t.seq ≠ .receiving) (cnt : t.cnt = s.cnt)
    (par : t.par = s.par) : t.PacketBalance := by
  rw [packetBalance_of_not_receiving to_, cnt, par]
  exact (packetBalance_of_not_receiving from_).mp balance

/-- The step into RECV counts the packet sent (R136). -/
theorem writeOk (at_ : s.seq = .writing) : s.writeOk.PacketBalance := by
  have before := (packetBalance_of_not_receiving (by simp [at_])).mp balance
  exact (packetBalance_of_receiving s.writeOk_seq).mpr ((wrapAdd_modEq _ _ 1).trans (before.add_right 1))

/-- A step out of RECV settles one packet more (R138 to R140). -/
theorem of_settled {t : State} (at_ : s.seq = .receiving) (to_ : t.seq ≠ .receiving)
    (sent : t.cnt.txPackets = s.cnt.txPackets) (par : t.par = s.par)
    (oneMore : t.cnt.settled ≡ s.cnt.settled + 1 [MOD 2 ^ s.par.wCnt]) : t.PacketBalance := by
  rw [packetBalance_of_not_receiving to_, sent, par]
  exact ((packetBalance_of_receiving at_).mp balance).trans oneMore.symm

theorem rxGapOk (at_ : s.seq = .receiving) : s.rxGapOk.PacketBalance := by
  refine balance.of_settled at_ (by simp) rfl rfl ?_
  calc s.rxGapOk.cnt.settled
      ≡ s.cnt.rxPackets + 1 + s.cnt.crcErrors + s.cnt.timeouts [MOD 2 ^ s.par.wCnt] :=
        ((wrapAdd_modEq _ _ 1).add_right _).add_right _
    _ = s.cnt.settled + 1 := by rw [Counters.settled]; omega

theorem rxGapBad (at_ : s.seq = .receiving) : s.rxGapBad.PacketBalance := by
  refine balance.of_settled at_ (by simp) rfl rfl ?_
  calc s.rxGapBad.cnt.settled
      ≡ s.cnt.rxPackets + (s.cnt.crcErrors + 1) + s.cnt.timeouts [MOD 2 ^ s.par.wCnt] :=
        ((wrapAdd_modEq _ _ 1).add_left _).add_right _
    _ = s.cnt.settled + 1 := by rw [Counters.settled]; omega

theorem rxDeadline (at_ : s.seq = .receiving) : s.rxDeadline.PacketBalance :=
  balance.of_settled at_ (by simp) rfl rfl ((wrapAdd_modEq _ _ 1).add_left _)

/-- Of the host operations, TXN moves SEQ outside RECV, and STAT_RESET writes the counters. -/
theorem hostMove {i : Instr} {t : State} (move : HostMove i s t) (kept : i = .statReset → s.seq ≠ .receiving) :
    t.PacketBalance := by
  cases move with
  | returned | refused | heldInWait => exact balance
  | accepted _ _ _ _ _ _ free =>
    have outside : s.seq ≠ .receiving := by
      intro at_
      simp [State.busy, SeqState.busy, at_] at free
    exact balance.of_outside outside (by simp) rfl rfl
  | zeroed => exact packetBalance_of_zero (kept rfl) rfl

theorem onReject (c : Code) : (s.onReject c).PacketBalance := by
  cases c with
  | hop | frame => exact balance

theorem seqMove {d : LinkEvent} {t : State} (move : SeqMove d s t) : t.PacketBalance := by
  cases move with
  | notEnabled | rxByte | rxOverflow => exact balance
  | openFail _ at_ | openOk _ at_ | writeFail _ at_ => exact balance.of_outside (by simp [at_]) (by simp) rfl rfl
  | writeOk _ at_ => exact balance.writeOk at_
  | gapBad _ at_ => exact balance.rxGapBad at_
  | gapOk _ at_ => exact balance.rxGapOk at_
  | deadline _ at_ => exact balance.rxDeadline at_

theorem move {e : Event} {t : State} (move : Move e s t)
    (kept : ¬ ∃ h c, e = .host h c ∧ decode c = .ok .statReset ∧ s.seq = .receiving) : t.PacketBalance := by
  cases move with
  | noStep => exact balance
  | executed h c i _ _ _ decoded hm =>
    refine hostMove (s := { s with caller := h }) balance hm ?_
    rintro rfl at_
    exact kept ⟨h, c, rfl, decoded, at_⟩
  | rejected h c => exact onReject (s := { s with caller := h }) balance c
  | sequencer _ _ _ hm => exact balance.seqMove hm
  | reset => exact packetBalance_of_zero (by simp) rfl

end State.PacketBalance

/-- Settles O20: the step is a move of its event, from `s` with another schedule, and the steps into and out of RECV count
one packet each. -/
theorem stepKeepsPacketBalance : Obligations.StepKeepsPacketBalance := by
  intro s t balance taken kept
  obtain ⟨env, tick, move⟩ := (takes_of_step taken).move
  exact State.PacketBalance.move (s := { s with env := env, tick := tick }) balance move kept

/-! ## Before a wrap (R166) -/

/-- Settles O21: by the rows of the counters' table (O18), where an addition that does not wrap only raises a counter. -/
theorem countersNeverDecreaseBeforeWrap : Obligations.CountersNeverDecreaseBeforeWrap := by
  intro s t taken notReset notZeroed txBytes rxBytes txPackets rxPackets crcErrors timeouts
  obtain row | ⟨_, reset | zeroed⟩ | ⟨_, _, row⟩ | ⟨_, _, _, row⟩ | ⟨_, _, _, row⟩ | ⟨_, _, row⟩ :=
    countersMoveAsTheTableSays s t taken
  case inr.inl.inl => exact absurd reset notReset
  case inr.inl.inr => exact absurd zeroed notZeroed
  all_goals rw [row]
  · exact ⟨le_rfl, le_rfl, le_rfl, le_rfl, le_rfl, le_rfl⟩
  · exact ⟨le_wrapAdd txBytes, le_rfl, le_wrapAdd txPackets, le_rfl, le_rfl, le_rfl⟩
  · exact ⟨le_rfl, le_wrapAdd rxBytes, le_rfl, le_wrapAdd rxPackets, le_rfl, le_rfl⟩
  · exact ⟨le_rfl, le_rfl, le_rfl, le_rfl, le_wrapAdd crcErrors, le_rfl⟩
  · exact ⟨le_rfl, le_rfl, le_rfl, le_rfl, le_rfl, le_wrapAdd timeouts⟩

end Sys2Proof.Machine
end

section
/-! PROOF. POLL and WAIT (R160, R161): O25 to O27. -/

namespace Sys2Proof.Machine

/-! ## POLL -/

theorem exec_poll (s : State) : exec .poll s = .next (s.reply s.resultReply) := rfl

/-- The widths of the fields below KIND (R31). -/
theorem statusWord_fields_lt (q : SeqState) :
    q.code.toNat < 8 ∧ q.busy.toNat < 2 ∧ (q == .done).toNat < 2 :=
  ⟨q.code.isLt, Bool.toNat_lt _, Bool.toNat_lt _⟩

/-- Bit 3 of STATUS is BUSY (R31). -/
theorem statusWord_busy (q : SeqState) (k : ResultKind) : (statusWord q k).getLsbD 3 = q.busy := by
  have ⟨code, busy, done⟩ := statusWord_fields_lt q
  have bit : (statusWord q k).toNat / 2 ^ 3 % 2 = q.busy.toNat := by
    rw [statusWord_toNat]
    omega
  rw [← BitVec.testBit_toNat, Nat.testBit_eq_decide_div_mod_eq, bit]
  simp

/-- Bits 11 to 8 of STATUS are KIND (R31). -/
theorem statusWord_kind (q : SeqState) (k : ResultKind) : (statusWord q k).extractLsb' 8 4 = k.code := by
  have ⟨code, busy, done⟩ := statusWord_fields_lt q
  have kind := k.code.isLt
  apply BitVec.eq_of_toNat_eq
  rw [BitVec.extractLsb'_toNat, Nat.shiftRight_eq_div_pow, statusWord_toNat]
  omega

/-- Settles O25: POLL changes neither STATUS nor RESULT_DATA, and the invariants give kind NONE and no data in IDLE and while
busy. -/
theorem pollReturnsStatusAndResult : Obligations.PollReturnsStatusAndResult := by
  refine fun s => ⟨⟨_, exec_poll s, rfl, exec_poll _⟩, fun inv at_ => ?_, fun inv at_ => ?_⟩
  · obtain ⟨kind, data⟩ := inv.idle_none at_
    rw [State.status, at_, kind]
    exact ⟨statusWord_idle_none, data⟩
  · have busy : s.busy = true := s.busy_eq_true.mpr at_
    obtain ⟨kind, data⟩ := inv.busy_none busy
    rw [State.status, statusWord_busy, statusWord_kind, kind]
    exact ⟨busy, rfl, data⟩

/-! ## WAIT -/

theorem exec_wait_of_free {s : State} (free : s.busy = false) : exec .wait s = exec .poll s :=
  if_neg (ne_true_of_eq_false free)

theorem exec_wait_of_busy {s : State} (busy : s.busy = true) : exec .wait s = .next s.hold := if_pos busy

/-- Settles O26: whether the sequencer is free decides. -/
theorem waitReturnsWhenFreeAndHoldsWhenBusy : Obligations.WaitReturnsWhenFreeAndHoldsWhenBusy := by
  refine fun s => ⟨fun at_ => ?_, fun at_ => ?_⟩
  · have isPoll := exec_wait_of_free (s.busy_eq_false.mpr at_)
    exact ⟨isPoll, isPoll.trans (exec_poll s)⟩
  · exact ⟨s.hold, exec_wait_of_busy (s.busy_eq_true.mpr at_), fun _ => List.mem_insert_iff, rfl⟩

/-! ## The end of a hold (R161, R183) -/

/-- The holds of `s` are lifted in `t`, each with the outcome that `t` shows. -/
def HoldsLifted (s t : State) : Prop :=
  t.held = [] ∧ t.replies = s.held.map (fun h => (h, t.resultReply)) ++ s.replies

theorem SeqMove.holdsLifted {d : LinkEvent} {s t : State} (move : SeqMove d s t) (before : s.seq ≠ .done)
    (after : t.seq = .done) : HoldsLifted s t := by
  cases move with
  | openFail | writeFail | gapBad | gapOk | deadline => exact ⟨rfl, rfl⟩
  | notEnabled | rxByte | rxOverflow => exact absurd after before
  | openOk | writeOk => cases after

/-- Only the sequencer comes to DONE, by a step that executes `finish`. -/
theorem Move.holdsLifted {e : Event} {s t : State} (move : Move e s t) (before : s.seq ≠ .done) (after : t.seq = .done) :
    HoldsLifted s t := by
  cases move with
  | noStep => exact absurd after before
  | executed _ _ _ _ _ _ _ hm =>
    obtain ⟨_, _, opened⟩ := hm.seq_moved fun same => before (same.symm.trans after)
    rw [opened] at after
    cases after
  | rejected _ c => exact absurd ((State.onReject_seq c _).symm.trans after) before
  | sequencer _ _ _ hm => exact hm.holdsLifted before after
  | reset => cases after

/-- Settles O27: the step is a move of its event, from `s` with another schedule. -/
theorem holdIsLiftedExactlyByFinishAndReset : Obligations.HoldIsLiftedExactlyByFinishAndReset := by
  intro s t taken
  obtain ⟨env, tick, move⟩ := (takes_of_step taken).move
  refine ⟨move.holdsLifted, fun h held lifted => ?_⟩
  exact (move.held_lifted held lifted).imp_right (And.imp_left s.busy_eq_true.mp)

end Sys2Proof.Machine
end

section
/-! PROOF. STAT and STAT_RESET (R162, R163): O29 and O30. -/

namespace Sys2Proof.Machine

theorem exec_stat_of_counter {s : State} {idx : BitVec 3} {v : Nat} (counter : s.cnt.get? idx = some v) :
    exec (.stat idx) s = .next (s.reply (.counter v)) := by
  simp only [exec, execStat, counter]

theorem exec_stat_of_no_counter {s : State} {idx : BitVec 3} (bad : s.cnt.get? idx = none) :
    exec (.stat idx) s = .next (s.refuse .badCounterIndex) := by
  simp only [exec, execStat, bad]

/-- The rows of the counters' table (R34) are what an index reads. -/
theorem Counters.get?_eq_some_of_mem {c : Counters} {idx : BitVec 3} {v : Nat}
    (row : (idx.toNat, v) ∈ [(0, c.txBytes), (1, c.rxBytes), (2, c.txPackets), (3, c.rxPackets), (4, c.crcErrors),
      (5, c.timeouts)]) : c.get? idx = some v := by
  simp only [List.mem_cons, Prod.mk.injEq, List.not_mem_nil, or_false] at row
  obtain ⟨at_, rfl⟩ | ⟨at_, rfl⟩ | ⟨at_, rfl⟩ | ⟨at_, rfl⟩ | ⟨at_, rfl⟩ | ⟨at_, rfl⟩ := row <;>
    simp only [Counters.get?, at_]

theorem Counters.get?_eq_none {idx : BitVec 3} (c : Counters) (beyond : 5 < idx.toNat) : c.get? idx = none := by
  have sixOrSeven : idx.toNat = 6 ∨ idx.toNat = 7 := by omega
  obtain at_ | at_ := sixOrSeven <;> simp only [Counters.get?, at_]

/-- Settles O29: the index reads a row of the counters' table, or none. -/
theorem statReadsTheIndexedCounter : Obligations.StatReadsTheIndexedCounter := fun _ s =>
  ⟨fun _ row => exec_stat_of_counter (Counters.get?_eq_some_of_mem row),
    fun beyond => exec_stat_of_no_counter (s.cnt.get?_eq_none beyond)⟩

theorem Counters.zero_get? : ∀ idx : BitVec 3, idx.toNat ≤ 5 → Counters.zero.get? idx = some 0 := by decide

/-- Settles O30: each index reads 0 of the counters that STAT_RESET leaves. -/
theorem statResetZeroesAllCounters : Obligations.StatResetZeroesAllCounters := fun _ =>
  ⟨_, rfl, rfl, fun idx below => exec_stat_of_counter (Counters.zero_get? idx below)⟩

end Sys2Proof.Machine
end

section
/-! PROOF. The step that reaches DONE (R183, R184, R186) and the done signal (R192): O52 and O19. -/

namespace Sys2Proof.Machine

/-! ## The step that reaches DONE -/

/-- A draw of the link moves the sequencer or nothing. -/
theorem Move.seqMove {d : LinkEvent} {s t : State} (move : Move (.link d) s t) : SeqMove d s t := by
  cases move with
  | noStep => exact .notEnabled d s
  | sequencer _ _ _ hm => exact hm

theorem Move.seq_of_reset {s t : State} (move : Move .reset s t) : t.seq = .idle := by
  cases move with
  | noStep _ _ notReset => exact absurd rfl notReset
  | reset => rfl

/-- DONE is reached by a step of the busy sequencer: a reset leads to IDLE and a TXN to OPEN. -/
theorem Move.sequencer_of_reaches_done {e : Event} {s t : State} (move : Move e s t) (before : s.seq ≠ .done)
    (after : t.seq = .done) :
    ∃ d, e = .link d ∧ (s.seq = .opening ∨ s.seq = .writing ∨ s.seq = .receiving) ∧ SeqMove d s t := by
  have moved : t.seq ≠ s.seq := fun same => before (same.symm.trans after)
  obtain rfl | ⟨d, rfl, busy⟩ | ⟨_, _, _, _, _, _, _, _, _, opened⟩ := move.seq_moved moved
  · cases move.seq_of_reset.symm.trans after
  · exact ⟨d, rfl, busy, move.seqMove⟩
  · cases opened.symm.trans after

/-- `t` is `s` with its transaction ended (R183): port and RXB given up, REQ, TXF and CFG kept, an outcome stored, and data
with OK only (R184, R186). -/
def FinishedFrom (s t : State) : Prop :=
  t.portOpen = false ∧ t.rxb = [] ∧ t.req = s.req ∧ t.txf = s.txf ∧ t.cfg = s.cfg
  ∧ t.resultKind ≠ .none ∧ (t.resultKind ≠ .ok → t.resultData = [])

theorem SeqMove.finishedFrom {d : LinkEvent} {s t : State} (move : SeqMove d s t) (before : s.seq ≠ .done)
    (after : t.seq = .done) : FinishedFrom s t := by
  cases move with
  | openFail | writeFail | gapBad | deadline => exact ⟨rfl, rfl, rfl, rfl, rfl, nofun, fun _ => rfl⟩
  | gapOk => exact ⟨rfl, rfl, rfl, rfl, rfl, nofun, fun notOk => absurd rfl notOk⟩
  | notEnabled | rxByte | rxOverflow => exact absurd after before
  | openOk | writeOk => cases after

/-- Settles O52: the step is a move of its event, from `s` with another schedule, and a step of the sequencer. -/
theorem finishIsPrecise : Obligations.FinishIsPrecise := by
  intro s t taken before after
  obtain ⟨env, tick, move⟩ := (takes_of_step taken).move
  obtain ⟨d, _, _, seqMove⟩ := move.sequencer_of_reaches_done before after
  exact seqMove.finishedFrom before after

/-! ## The done signal -/

theorem State.doneSignal_eq_true {s : State} : s.doneSignal = true ↔ s.seq = .done := beq_iff_eq

theorem State.doneSignal_eq_false {s : State} : s.doneSignal = false ↔ s.seq ≠ .done := beq_eq_false_iff_ne

/-- Bit 4 of STATUS is DONE (R31). -/
theorem statusWord_done (q : SeqState) (k : ResultKind) : (statusWord q k).getLsbD 4 = (q == .done) := by
  have ⟨code, busy, done⟩ := statusWord_fields_lt q
  have bit : (statusWord q k).toNat / 2 ^ 4 % 2 = (q == .done).toNat := by
    rw [statusWord_toNat]
    omega
  rw [← BitVec.testBit_toNat, Nat.testBit_eq_decide_div_mod_eq, bit]
  simp only [Bool.toNat_eq_one, Bool.decide_eq_true]

/-- DONE is left by a reset or an accepted TXN: the sequencer has no step there (R141). -/
theorem Move.reset_or_accepted_of_leaves_done {e : Event} {s t : State} (move : Move e s t) (before : s.seq = .done)
    (after : t.seq ≠ .done) :
    e = .reset ∨ ∃ h c port baud tmo req, e = .host h c ∧ decode c = .ok (.txn port baud tmo req) ∧ t.seq = .opening := by
  have moved : t.seq ≠ s.seq := fun same => after (same.trans before)
  obtain isReset | ⟨_, _, busy⟩ | ⟨h, c, port, baud, tmo, req, isHost, decoded, _, opened⟩ := move.seq_moved moved
  · exact .inl isReset
  · simp [before] at busy
  · exact .inr ⟨h, c, port, baud, tmo, req, isHost, decoded, opened⟩

/-- Settles O19: the signal says whether SEQ is DONE, so it rises where a step reaches DONE and falls where one leaves it. -/
theorem doneSignalMovesOnlyAtFinishTransactionAndReset :
    Obligations.DoneSignalMovesOnlyAtFinishTransactionAndReset := by
  intro s t taken
  obtain ⟨env, tick, move⟩ := (takes_of_step taken).move
  refine ⟨statusWord_done t.seq t.resultKind, State.doneSignal_eq_true, fun isReset => ?_, fun low high => ?_,
    fun high low => ?_⟩
  · rw [isReset] at move
    rw [State.doneSignal, move.seq_of_reset]
    rfl
  · obtain ⟨d, isLink, busy, _⟩ :=
      move.sequencer_of_reaches_done (State.doneSignal_eq_false.mp low) (State.doneSignal_eq_true.mp high)
    exact ⟨⟨d, isLink⟩, busy⟩
  · exact move.reset_or_accepted_of_leaves_done (State.doneSignal_eq_true.mp high) (State.doneSignal_eq_false.mp low)

end Sys2Proof.Machine
end

section
/-! PROOF. A reset, whatever is outstanding (R210, R211): O10. -/

namespace Sys2Proof.Machine

/-- The block that a reset leaves: the reset state, but for what `clear` does not write and the values of `release`. -/
theorem State.resetBlock_eq (s : State) : s.resetBlock = { State.reset with
    par := s.par
    refusal := s.refusal
    caller := s.caller
    requests := s.requests
    tick := s.tick
    env := s.env
    replies := s.held.map (fun h => (h, .result 0x00000000 [])) ++ s.replies } := by
  rw [← s.clear_resultReply]
  rfl

/-- Settles O10: the listed reset runs on the state without it. -/
theorem resetAbortsAndReleasesHolds : Obligations.ResetAbortsAndReleasesHolds := by
  intro s rest listed
  rw [step_cons listed]
  exact congrArg Host.Outcome.next (State.resetBlock_eq { s with env := rest })

end Sys2Proof.Machine
end

section
/-! PROOF. The end of a run and what it observed (R222): O57. -/

namespace Sys2Proof.Machine

theorem State.atEnd_iff {s : State} :
    s.atEnd = true ↔ s.held = [] ∧ (s.seq = .idle ∨ s.seq = .done) ∧ s.refusedMark = false := by
  simp only [State.atEnd, Bool.and_eq_true, List.isEmpty_iff, Bool.not_eq_true', s.busy_eq_false, and_assoc]

theorem State.observed?_of_atEnd {s : State} (atEnd : s.atEnd = true) :
    s.observed? = some (s.replies.reverse, s.resultKind, s.resultData, s.cnt) :=
  if_pos atEnd

theorem State.observed?_of_not_atEnd {s : State} (notAtEnd : s.atEnd = false) : s.observed? = none :=
  if_neg (ne_true_of_eq_false notAtEnd)

theorem State.atEnd_of_refused {s : State} (refused : s.refusedMark = true) : s.atEnd = false := by
  rw [Bool.eq_false_iff, Ne, State.atEnd_iff, refused]
  simp

/-- What every step keeps, a run keeps: the induction over its steps. -/
theorem StepInvariant.run {P : State → Prop} (inv : StepInvariant P) {k : Nat} {s t : State}
    (ran : Host.Core.run core k s = .next t) (hs : P s) : P t := by
  induction k generalizing s with
  | zero =>
    cases ran
    exact hs
  | succ k ih =>
    obtain ⟨u, taken, _⟩ := runEvent_moves s.nextEvent.1 s.nextEvent.2
    rw [run_succ taken] at ran
    exact ih ran (inv.step taken hs)

/-- Settles O57: no step takes the mark REFUSED away (`markAndParametersKept_stepInvariant`), and a marked state is no end. -/
theorem runEndsFreeUnheldAndUnrefused : Obligations.RunEndsFreeUnheldAndUnrefused := by
  refine fun s => ⟨State.atEnd_iff, State.observed?_of_atEnd, fun refused k t ran => ?_⟩
  obtain ⟨_, markKept⟩ : s.MarkAndParametersKept t := (markAndParametersKept_stepInvariant s).run ran ⟨rfl, id⟩
  have notAtEnd : t.atEnd = false := State.atEnd_of_refused (markKept refused)
  exact ⟨notAtEnd, State.observed?_of_not_atEnd notAtEnd⟩

end Sys2Proof.Machine
end

section
/-! PROOF. Every transaction of a weakly fair run ends (R221, R222): O55. -/

namespace Sys2Proof.Machine

/-! ## The event that ends a transaction -/

/-- A draw that frees a busy sequencer executes `finish`: it ends the transaction and lifts the holds. -/
theorem SeqMove.ends_of_freed {d : LinkEvent} {s t : State} (move : SeqMove d s t) (busy : s.busy = true)
    (freed : t.busy = false) : t.held = [] ∧ endsTransaction (.link d) = true ∧ t.seq = .done := by
  cases move with
  | openFail | writeFail | gapBad | gapOk | deadline => exact ⟨rfl, rfl, rfl⟩
  | openOk | writeOk => cases freed
  | notEnabled | rxByte | rxOverflow => exact absurd busy (ne_true_of_eq_false freed)

theorem Move.eq_resetBlock {s t : State} (move : Move .reset s t) : t = s.resetBlock := by
  cases move with
  | noStep _ _ notReset => exact absurd rfl notReset
  | reset => rfl

/-- The event that frees a busy sequencer is a reset or ends the transaction: a host's operation moves SEQ only from IDLE or
DONE. -/
theorem Move.ends_of_freed {e : Event} {s t : State} (move : Move e s t) (busy : s.busy = true) (freed : t.busy = false) :
    t.held = [] ∧ ((e = .reset ∧ t.seq = .idle) ∨ (endsTransaction e = true ∧ t.seq = .done)) := by
  have moved : t.seq ≠ s.seq := fun same =>
    absurd ((congrArg SeqState.busy same).trans busy) (ne_true_of_eq_false freed)
  obtain rfl | ⟨d, rfl, _⟩ | ⟨_, _, _, _, _, _, _, _, free, _⟩ := move.seq_moved moved
  · rw [move.eq_resetBlock]
    exact ⟨rfl, .inl ⟨rfl, rfl⟩⟩
  · exact (move.seqMove.ends_of_freed busy freed).imp_right .inr
  · exact absurd busy (ne_true_of_eq_false (s.busy_eq_false.mpr free))

/-! ## A weakly fair run does not stay busy -/

theorem SeqState.stepsLeft_eq_one {q : SeqState} : q.stepsLeft = 1 ↔ q = .receiving := by
  cases q <;> simp [SeqState.stepsLeft]

/-- A byte is delivered in RECV only, by a step of the sequencer. -/
theorem State.receiving_of_receivesByte {s : State} {e : Event} (received : s.receivesByte e = true) :
    s.seq = .receiving ∧ s.sequencerMoves e = true := by
  unfold State.receivesByte at received
  split at received
  · have at_ : s.seq = .receiving := by simpa using enables_iff.mp received
    exact ⟨at_, received⟩
  all_goals cases received

theorem State.receivesByte_le_sequencerMoves (s : State) (e : Event) : s.receivesByte e ≤ s.sequencerMoves e :=
  fun received => (State.receiving_of_receivesByte received).2

section
variable {sched : Nat → Event} {r : Nat → State} {n : Nat} (run : IsRun sched r) (busy : ∀ m, n ≤ m → (r m).busy = true)
include run busy

/-- While the sequencer is busy no event adds to the steps left, so from some moment on they stay the same. -/
theorem IsRun.stepsLeft_settles :
    ∃ m, n ≤ m ∧ ∀ k, m ≤ k → (r k).seq.stepsLeft = (r m).seq.stepsLeft := by
  have antitone : Antitone fun j => (r (n + j)).seq.stepsLeft := antitone_nat_of_succ_le fun j => by
    have step := (run (n + j)).stepsLeft (busy (n + j) (by omega))
    have byte := Bool.toNat_le_toNat ((r (n + j)).receivesByte_le_sequencerMoves (sched (n + j)))
    rw [← Nat.add_assoc]
    omega
  obtain ⟨j, settled⟩ := WellFoundedLT.antitone_chain_condition antitone
  refine ⟨n + j, by omega, fun k later => ?_⟩
  obtain ⟨i, rfl⟩ := Nat.exists_eq_add_of_le later
  rw [Nat.add_assoc]
  exact (settled (j + i) (by omega)).symm

/-- While the steps left stay the same, the sequencer does nothing but receive bytes. -/
theorem IsRun.receivesByte_of_settled {k : Nat} (later : n ≤ k)
    (settled : (r (k + 1)).seq.stepsLeft = (r k).seq.stepsLeft) (moves : (r k).sequencerMoves (sched k) = true) :
    (r k).receivesByte (sched k) = true := by
  have step := (run k).stepsLeft (busy k later)
  rw [settled, moves] at step
  exact Bool.toNat_eq_one.mp (Nat.le_antisymm (Bool.toNat_le _) (Nat.le_of_add_le_add_left step))

/-- A run that stays busy is not weakly fair (R221). Once the steps left stay the same, the move that fairness grants the
sequencer is a byte in RECV; so it stays in RECV, where the deadline is enabled and comes, and that is a move that receives
no byte. -/
theorem IsRun.not_fair_of_busy : ¬ WeaklyFair sched r := by
  intro fair
  obtain ⟨m, from_, settled⟩ := run.stepsLeft_settles busy
  have onlyBytes : ∀ k, m ≤ k → (r k).sequencerMoves (sched k) = true → (r k).receivesByte (sched k) = true :=
    fun k later => run.receivesByte_of_settled busy (from_.trans later)
      ((settled (k + 1) (by omega)).trans (settled k later).symm)
  obtain ⟨k, later, moves⟩ := fair.sequencer m fun k later => busy k (from_.trans later)
  obtain ⟨atByte, _⟩ := State.receiving_of_receivesByte (onlyBytes k later moves)
  have receiving : ∀ j, m ≤ j → (r j).seq = .receiving := fun j later' => by
    rw [← SeqState.stepsLeft_eq_one, settled j later', ← settled k later, SeqState.stepsLeft_eq_one, atByte]
  have deadlineEnabled : ∀ j, m ≤ j → (r j).enables .deadline = true := fun j later' =>
    enables_iff.mpr (.inr (.inr ⟨receiving j later', .inr (.inr rfl)⟩))
  obtain ⟨j, later', comes⟩ := fair.deadline m deadlineEnabled
  have received : (r j).receivesByte (sched j) = true := onlyBytes j later' (by rw [comes]; exact deadlineEnabled j later')
  rw [comes] at received
  cases received

end

/-- What holds now and not for ever has a last moment up to which it holds. -/
theorem exists_last_of_not_forever {p : Nat → Prop} {n : Nat} (now : p n) (ends : ¬ ∀ m, n ≤ m → p m) :
    ∃ m, n ≤ m ∧ (∀ k, n ≤ k → k ≤ m → p k) ∧ ¬ p (m + 1) := by
  by_contra noLast
  push Not at noLast
  have upTo : ∀ m, n ≤ m → ∀ k, n ≤ k → k ≤ m → p k := by
    intro m later
    induction later with
    | refl =>
      intro k from_ to_
      rwa [Nat.le_antisymm to_ from_]
    | step later ih =>
      intro k from_ to_
      obtain before | rfl := Nat.le_or_eq_of_le_succ to_
      · exact ih k from_ before
      · exact noLast _ later ih
  exact ends fun m later => upTo m later m later (Nat.le_refl m)

/-- Settles O55: the sequencer is not busy for ever (`IsRun.not_fair_of_busy`), and the event after the last busy moment frees
it. -/
theorem weaklyFairRunsEndTransactions : Obligations.WeaklyFairRunsEndTransactions := by
  intro sched r n run fair busy
  obtain ⟨m, later, busyTo, freed⟩ := exists_last_of_not_forever (p := fun k => (r k).busy = true) busy
    fun busyForever => run.not_fair_of_busy busyForever fair
  obtain ⟨env, tick, move⟩ := (run m).move
  exact ⟨m, later, busyTo, move.ends_of_freed (busyTo m later (Nat.le_refl m)) (Bool.eq_false_of_not_eq_true freed)⟩

end Sys2Proof.Machine
end
